-- ==== Sys2Proof/Word.lean ====
section
/-!
DEFINITION. The words of the block's interface: register keys, command bytes, queue entries, host calls.

The widths are those of R60 and R80. Every wider quantity of the block has a width of its own and stands
in the record that holds it (Machine/State.lean).
-/

namespace Sys2Proof

/-- The value of one register write: 8 bits (R60). -/
abbrev Byte := BitVec 8

/-- A register key, the `address` of `write` and `read`: 32 bits (R60, R62). -/
abbrev Key := BitVec 32

/-- The 40-bit entry word `E = {address, value}` (R80). -/
abbrev EntryWord := BitVec 40

/-- One element of the write queue: the pair of one `write` (R28, R80). -/
structure Entry where
  /-- `A`, the register key. -/
  addr : Key
  /-- `V`, the value byte. -/
  value : Byte
  deriving DecidableEq, Repr

/-- The entry as one word, the address in the upper 32 bits (R80). -/
abbrev Entry.word (e : Entry) : EntryWord := e.addr ++ e.value

/-- One call of the host as it stands on a command port (R87): the 3-bit operation code, and the operands
that travel beside it. No operation has more than two operands; one that an operation does not have is
ignored. The operands are natural numbers, because `count` of GENERATE is one and because R302 and R240
speak of arguments too large for their registers. -/
structure HostCall where
  /-- The operation code. -/
  code : BitVec 3
  /-- First operand: `clk`, `address`, `count` or `level`. -/
  arg0 : Nat
  /-- Second operand: `rate` or `value`. -/
  arg1 : Nat
  deriving DecidableEq, Repr

end Sys2Proof
end

