-- ==== Sys2Proof/Config.lean ====
section
/-!
DEFINITION. What an instance of the block fixes when it is built (R7, R9): the structural parameters, as
plain data, and the open parameters, as constants that nothing can evaluate.

The structural parameters are data because the spec gives a legal RANGE for each: a statement about every
`Params` that is legal holds for every instance, not for the reference instance alone.
-/

namespace Sys2Proof.Config

/-- `OPS`: an instance has 2 or 4 operators per channel (R7). -/
inductive OperatorCount where
  | two
  | four
  deriving DecidableEq, Repr

/-- `OPS` as a number. -/
def OperatorCount.count : OperatorCount → Nat
  | .two => 2
  | .four => 4

/-! ## The register map -/

/-- A run of bits of an operand: `len` bits of the entry word from bit `lo` on, or `len` bits that the map
itself gives. -/
inductive Piece where
  | slice (lo len : Nat)
  | const (len value : Nat)
  deriving DecidableEq, Repr

/-- Where an operand comes from: pieces put side by side, the least significant first, the bits above them 0. -/
abbrev Source := List Piece

/-- The bits `lo` to `lo + len - 1` of the entry word `E`. -/
def bits (lo len : Nat) : Source := [.slice lo len]

/-- What a row of the map makes of an entry: one of the 19 queue commands, with the source of each of its
operands. The operands are those of `Instr`, in the same order. -/
inductive Template where
  | statusW
  | lfoAmFreq (f : Source)
  | lfoPmFreq (f : Source)
  | lfoWave (am pm : Source)
  | key (c on : Source)
  | freqLo (c lo : Source)
  | freqHi (c fhi block : Source)
  | algFb (c alg fb : Source)
  | panLfo (c pan ams pms : Source)
  | mulDt (c k mul dt : Source)
  | tl (c k level : Source)
  | ar (c k rate : Source)
  | dr (c k rate : Source)
  | sr (c k rate : Source)
  | rr (c k rate : Source)
  | slKs (c k sl ks : Source)
  | egtSsg (c k ssg hold ignk : Source)
  | wait (n : Source)
  | unmapped
  deriving DecidableEq, Repr

/-- One row of the write side of the map (R84): an entry word `E` belongs to it when `E & mask = pattern`. -/
structure MapRow where
  pattern : EntryWord
  mask : EntryWord
  command : Template
  deriving DecidableEq, Repr

/-- One row of the read side of the map (R64): the key `A` reads STATUS when `A & mask = pattern`. -/
structure ReadRow where
  pattern : Key
  mask : Key
  deriving DecidableEq, Repr

/-- A value of the parameter `DECODE` (R7): "the whole map is replaceable" (R64). A row can put any command at any
set of entry words and take its operands from any bits of them or from constants, so every table from entry words
to commands can be written. WAIT and UNMAPPED are rows like the others. -/
structure RegisterMap where
  /-- What a written entry decodes to: the first row it belongs to. -/
  rows : List MapRow
  /-- The keys at which `read` finds STATUS, the one readable register (R64). -/
  statusKeys : List ReadRow
  deriving DecidableEq, Repr

/-- The channel index of a key of format C: `A[6:4]`, that is `E[14:12]` (R81). -/
def chanC : Source := bits 12 3

/-- The channel index of a key of format O: `A[8:6]`, that is `E[16:14]` (R81). -/
def chanO : Source := bits 14 3

/-- The operator index of a key of format O: `A[5:4]`, that is `E[13:12]` (R81). -/
def operO : Source := bits 12 2

/-- The mask of a row of format G (R84). -/
def maskG : EntryWord := 0xFFFFFFFF00

/-- The mask of a row of format C (R84). -/
def maskC : EntryWord := 0xFFFFFF8F00

/-- The mask of a row of format O (R84). -/
def maskO : EntryWord := 0xFFFFFE0F00

/-- The rows of format G in the reference map (R84). -/
def rowsG : List MapRow :=
  [ ⟨0x0000000000, maskG, .statusW⟩,
    ⟨0x0000000100, maskG, .lfoAmFreq (bits 0 8)⟩,
    ⟨0x0000000200, maskG, .lfoPmFreq (bits 0 8)⟩,
    ⟨0x0000000300, maskG, .lfoWave (bits 0 2) (bits 4 2)⟩,
    ⟨0x0000000400, maskG, .key (bits 0 3) (bits 7 1)⟩ ]

/-- The rows of format C in the reference map (R84). -/
def rowsC : List MapRow :=
  [ ⟨0x0000010000, maskC, .freqLo chanC (bits 0 8)⟩,
    ⟨0x0000010100, maskC, .freqHi chanC (bits 0 3) (bits 3 3)⟩,
    ⟨0x0000010200, maskC, .algFb chanC (bits 0 3) (bits 3 3)⟩,
    ⟨0x0000010300, maskC, .panLfo chanC (bits 0 2) (bits 2 2) (bits 4 3)⟩ ]

/-- The rows of format O in the reference map (R84). -/
def rowsO : List MapRow :=
  [ ⟨0x0000020000, maskO, .mulDt chanO operO (bits 0 4) (bits 4 3)⟩,
    ⟨0x0000020100, maskO, .tl chanO operO (bits 0 7)⟩,
    ⟨0x0000020200, maskO, .ar chanO operO (bits 0 6)⟩,
    ⟨0x0000020300, maskO, .dr chanO operO (bits 0 6)⟩,
    ⟨0x0000020400, maskO, .sr chanO operO (bits 0 6)⟩,
    ⟨0x0000020500, maskO, .rr chanO operO (bits 0 6)⟩,
    ⟨0x0000020600, maskO, .slKs chanO operO (bits 0 4) (bits 4 2)⟩,
    ⟨0x0000020700, maskO, .egtSsg chanO operO (bits 0 4) (bits 4 1) (bits 5 1)⟩ ]

/-- The last two rows of the reference map (R84). The WAIT count is `V` below `A[15:0]`. -/
def rowsP : List MapRow :=
  [ ⟨0x8000000000, 0x8000000000, .wait [.slice 0 8, .slice 8 16]⟩,
    ⟨0x0000000000, 0x0000000000, .unmapped⟩ ]

/-- The reference decode table `DECODE`, its rows in the order of R84; STATUS is read at key 0 (R64). -/
def referenceMap : RegisterMap :=
  { rows := rowsG ++ (rowsC ++ (rowsO ++ rowsP)), statusKeys := [⟨0x00000000, 0xFFFFFFFF⟩] }

/-! ## The parameters -/

/-- The structural parameters of one instance (R7): "fixed at construction of an instance and never
change". -/
structure Params where
  /-- `NCH`, the number of channels. -/
  nch : Nat
  /-- `OPS`, the operators per channel. -/
  ops : OperatorCount
  /-- `BUSY_WRITE`, chip clocks of busy that an accepted register write sets. -/
  busyWrite : BitVec 24
  /-- `READ_SENTINEL`, what `read` returns for a key with no readable register. -/
  readSentinel : Byte
  /-- `DECODE`, the register map. -/
  map : RegisterMap
  deriving DecidableEq, Repr

/-- The legal range of R7. `OPS`, `BUSY_WRITE` and `READ_SENTINEL` are in range by their types. -/
abbrev Params.Legal (p : Params) : Prop := 1 ≤ p.nch ∧ p.nch ≤ 8

/-- The reference values of R7, used by every vector of spec/95_test_vectors.md. -/
def reference : Params :=
  { nch := 6, ops := .two, busyWrite := 32, readSentinel := 0xFF, map := referenceMap }

/-- The fifteen SSG-EG modes that the spec leaves open (R9, R160): a FREE VALUE for each mode and level. -/
opaque ssgOpen : BitVec 4 → BitVec 10 → BitVec 10

/-- `SSG_XFORM` (R9, R160). The two constraints of the spec hold by construction: mode 0 is no transform,
and the result is a 10-bit level. -/
def ssgXform (mode : BitVec 4) (level : BitVec 10) : BitVec 10 :=
  if mode = 0 then level else ssgOpen mode level

/-- `HR_RATE_VALUE` (R9): a FREE VALUE, read by the host-side HARDRESET macro alone. -/
opaque hrRateValue : BitVec 6

/-- `HR_WAIT_CYCLES` (R9): a FREE VALUE, read by the host-side HARDRESET macro alone. -/
opaque hrWaitCycles : BitVec 24

end Sys2Proof.Config
end

