-- ==== Sys2Proof/Syntax.lean ====
section
/-!
DEFINITION. The instructions: the 19 register-write commands a queue entry can decode to and the six host
operations, one constructor for each row of spec/opcode_table.json.

Fields are the operands of R84 and R87, in the order of the assembler syntax of R88. A channel index is the
3-bit slice of the entry and an operator index the 2-bit slice (R81); whether the instance has such a
channel or operator is decided in WellFormed.lean and in Decode.lean.
-/

namespace Sys2Proof

/-- The block's instruction set. -/
inductive Instr where
  /-- STATUS_W: a write to the read-only STATUS key (R250). -/
  | statusW
  /-- LFO_AM_FREQ f (R251). -/
  | lfoAmFreq (f : BitVec 8)
  /-- LFO_PM_FREQ f (R252). -/
  | lfoPmFreq (f : BitVec 8)
  /-- LFO_WAVE am, pm (R253). -/
  | lfoWave (am pm : BitVec 2)
  /-- KEY c, on: the channel comes from the value byte (R254). -/
  | key (c : BitVec 3) (on : Bool)
  /-- FREQ_LO c, lo (R255). -/
  | freqLo (c : BitVec 3) (lo : BitVec 8)
  /-- FREQ_HI c, fhi, block (R256). -/
  | freqHi (c : BitVec 3) (fhi block : BitVec 3)
  /-- ALG_FB c, alg, fb (R257). -/
  | algFb (c : BitVec 3) (alg fb : BitVec 3)
  /-- PAN_LFO c, pan, ams, pms (R258). -/
  | panLfo (c : BitVec 3) (pan ams : BitVec 2) (pms : BitVec 3)
  /-- MUL_DT c, k, mul, dt (R259). -/
  | mulDt (c : BitVec 3) (k : BitVec 2) (mul : BitVec 4) (dt : BitVec 3)
  /-- TL c, k, tl (R260). -/
  | tl (c : BitVec 3) (k : BitVec 2) (level : BitVec 7)
  /-- AR c, k, rate (R261). -/
  | ar (c : BitVec 3) (k : BitVec 2) (rate : BitVec 6)
  /-- DR c, k, rate (R262). -/
  | dr (c : BitVec 3) (k : BitVec 2) (rate : BitVec 6)
  /-- SR c, k, rate (R263). -/
  | sr (c : BitVec 3) (k : BitVec 2) (rate : BitVec 6)
  /-- RR c, k, rate (R264). -/
  | rr (c : BitVec 3) (k : BitVec 2) (rate : BitVec 6)
  /-- SL_KS c, k, sl, ks (R265). -/
  | slKs (c : BitVec 3) (k : BitVec 2) (sl : BitVec 4) (ks : BitVec 2)
  /-- EGT_SSG c, k, ssg, hold, ignk (R266). -/
  | egtSsg (c : BitVec 3) (k : BitVec 2) (ssg : BitVec 4) (hold ignk : Bool)
  /-- WAIT n (R267). -/
  | wait (n : BitVec 24)
  /-- UNMAPPED: an entry that names no register of the instance; it has no operands (R268). -/
  | unmapped
  /-- RESET clk, rate (R301). -/
  | reset (clk rate : Nat)
  /-- WRITE address, value (R212). -/
  | write (addr : Key) (value : Byte)
  /-- READ address (R218). -/
  | read (addr : Key)
  /-- GENERATE count (R234). -/
  | generate (count : Nat)
  /-- SETVOLUME level (R240). -/
  | setVolume (level : Nat)
  /-- TICK (R237). -/
  | tick
  deriving DecidableEq, Repr

/-- The formats of R81 and R87: global, channel, operator and pseudo entries, the row with no format, and
the host operations. -/
inductive Format where
  | global
  | channel
  | operator
  | pseudo
  | unformatted
  | host
  deriving DecidableEq, Repr

/-- The format column of R84 and of the opcode table. -/
def Instr.format : Instr → Format
  | .statusW => .global
  | .lfoAmFreq _ => .global
  | .lfoPmFreq _ => .global
  | .lfoWave _ _ => .global
  | .key _ _ => .global
  | .freqLo _ _ => .channel
  | .freqHi _ _ _ => .channel
  | .algFb _ _ _ => .channel
  | .panLfo _ _ _ _ => .channel
  | .mulDt _ _ _ _ => .operator
  | .tl _ _ _ => .operator
  | .ar _ _ _ => .operator
  | .dr _ _ _ => .operator
  | .sr _ _ _ => .operator
  | .rr _ _ _ => .operator
  | .slKs _ _ _ _ => .operator
  | .egtSsg _ _ _ _ _ => .operator
  | .wait _ => .pseudo
  | .unmapped => .unformatted
  | .reset _ _ => .host
  | .write _ _ => .host
  | .read _ => .host
  | .generate _ => .host
  | .setVolume _ => .host
  | .tick => .host

/-- The 19 commands that pass through the queue, as opposed to the six host operations (R3, R87). -/
def Instr.isQueueCommand (i : Instr) : Bool := i.format != .host

end Sys2Proof
end

