-- ==== Sys2Proof/WellFormed.lean ====
section
/-!
DEFINITION. Which instructions an instance can be given: the checks of the assembler of R88, which "refuses
an operand that does not fit its field", and the index bounds of R83.
-/

namespace Sys2Proof

/-- The instance has channel `c` (R83: `c < NCH`). -/
def hasChannel (p : Config.Params) (c : BitVec 3) : Bool := decide (c.toNat < p.nch)

/-- The instance has operator `k` of channel `c` (R83: `c < NCH` and `k < OPS`). -/
def hasOperator (p : Config.Params) (c : BitVec 3) (k : BitVec 2) : Bool :=
  hasChannel p c && decide (k.toNat < p.ops.count)

/-- A natural operand that fits a u32 (R87). -/
def fitsU32 (n : Nat) : Bool := decide (n < 4294967296)

/-- The operands fit their fields and the indices name records of the instance. KEY has no index check:
its channel stands in the value byte, and a KEY for an absent channel is still a KEY (R254). -/
def Instr.wellFormed (p : Config.Params) : Instr → Bool
  | .statusW => true
  | .lfoAmFreq _ => true
  | .lfoPmFreq _ => true
  | .lfoWave _ _ => true
  | .key _ _ => true
  | .freqLo c _ => hasChannel p c
  | .freqHi c _ _ => hasChannel p c
  | .algFb c _ _ => hasChannel p c
  | .panLfo c _ _ _ => hasChannel p c
  | .mulDt c k _ _ => hasOperator p c k
  | .tl c k _ => hasOperator p c k
  | .ar c k _ => hasOperator p c k
  | .dr c k _ => hasOperator p c k
  | .sr c k _ => hasOperator p c k
  | .rr c k _ => hasOperator p c k
  | .slKs c k _ _ => hasOperator p c k
  | .egtSsg c k _ _ _ => hasOperator p c k
  | .wait _ => true
  | .unmapped => true
  | .reset clk rate => fitsU32 clk && fitsU32 rate
  | .write _ _ => true
  | .read _ => true
  | .generate _ => true
  | .setVolume level => decide (level < 4096)
  | .tick => true

end Sys2Proof
end

