-- ==== Sys2Proof/Decode.lean ====
section
/-!
DEFINITION. The decoder of queue entries (R83), the decoder of host calls (R87), the encoder of both (R84,
R87), and the assembler's abbreviations (R88, R89).

Decoding an entry is total and rejects nothing, whatever map the instance has: what no row of it claims is
UNMAPPED. A host call is rejected by name when its code is no operation or an operand does not fit the
operation's type.
-/

namespace Sys2Proof

/-- Why a host call is no operation of the block. -/
inductive CallReject where
  /-- Operation code 6 or 7 (R87, U5). -/
  | noSuchCode
  /-- An `address` that is no u32 or a `value` that is no u8 (R87, R88). -/
  | operandTooWide
  deriving DecidableEq, Repr

/-! ## Queue entries -/

/-- The bits a source names, as a number. -/
def readBits (e : EntryWord) : Config.Source → Nat
  | [] => 0
  | .slice lo len :: rest => (e.extractLsb' lo len).toNat + 2 ^ len * readBits e rest
  | .const len value :: rest => value % 2 ^ len + 2 ^ len * readBits e rest

/-- An operand of `w` bits, "an unsigned bit slice" (R82). -/
def readField (w : Nat) (e : EntryWord) (src : Config.Source) : BitVec w := BitVec.ofNat w (readBits e src)

/-- An operand of one bit. -/
def readFlag (e : EntryWord) (src : Config.Source) : Bool := (readField 1 e src).getLsbD 0

/-- A command of format C exists only for a channel of the instance, and is UNMAPPED otherwise (R83). -/
def ifChannel (p : Config.Params) (c : BitVec 3) (i : Instr) : Instr :=
  if hasChannel p c then i else .unmapped

/-- A command of format O exists only for an operator of the instance (R83). -/
def ifOperator (p : Config.Params) (c : BitVec 3) (k : BitVec 2) (i : Instr) : Instr :=
  if hasOperator p c k then i else .unmapped

/-- The command a template gives for an entry: its operands read as the map says, every other bit of the entry
ignored (R85). KEY has no check: its channel is no index of its row but a value (R254). -/
def templateCommand (p : Config.Params) (e : EntryWord) (t : Config.Template) : Instr :=
  let field {w : Nat} (src : Config.Source) : BitVec w := readField w e src
  match t with
  | .statusW => .statusW
  | .lfoAmFreq f => .lfoAmFreq (field f)
  | .lfoPmFreq f => .lfoPmFreq (field f)
  | .lfoWave am pm => .lfoWave (field am) (field pm)
  | .key c on => .key (field c) (readFlag e on)
  | .freqLo c lo => ifChannel p (field c) (.freqLo (field c) (field lo))
  | .freqHi c fhi block => ifChannel p (field c) (.freqHi (field c) (field fhi) (field block))
  | .algFb c alg fb => ifChannel p (field c) (.algFb (field c) (field alg) (field fb))
  | .panLfo c pan ams pms =>
    ifChannel p (field c) (.panLfo (field c) (field pan) (field ams) (field pms))
  | .mulDt c k mul dt =>
    ifOperator p (field c) (field k) (.mulDt (field c) (field k) (field mul) (field dt))
  | .tl c k level =>
    ifOperator p (field c) (field k) (.tl (field c) (field k) (field level))
  | .ar c k rate =>
    ifOperator p (field c) (field k) (.ar (field c) (field k) (field rate))
  | .dr c k rate =>
    ifOperator p (field c) (field k) (.dr (field c) (field k) (field rate))
  | .sr c k rate =>
    ifOperator p (field c) (field k) (.sr (field c) (field k) (field rate))
  | .rr c k rate =>
    ifOperator p (field c) (field k) (.rr (field c) (field k) (field rate))
  | .slKs c k sl ks =>
    ifOperator p (field c) (field k) (.slKs (field c) (field k) (field sl) (field ks))
  | .egtSsg c k ssg hold ignk =>
    ifOperator p (field c) (field k)
      (.egtSsg (field c) (field k) (field ssg) (readFlag e hold) (readFlag e ignk))
  | .wait n => .wait (field n)
  | .unmapped => .unmapped

/-- The entry word belongs to the row (R84). -/
def rowMatches (e : EntryWord) (r : Config.MapRow) : Bool := e &&& r.mask == r.pattern

/-- Decoding an entry word by the instance's map: "the rows in the order given", "the first whose
`(E & mask) = match`" (R83, R84). An entry that no row claims is UNMAPPED; the reference map's last row claims
all. -/
def decodeEntry (p : Config.Params) (e : EntryWord) : Instr :=
  match p.map.rows.find? (rowMatches e) with
  | some r => templateCommand p e r.command
  | none => .unmapped

/-! ## Host calls -/

/-- Decoding a host call (R87). The u32 and u12 arguments of RESET and SETVOLUME are checked where R302 and
R240 check them, by the operation. -/
def decodeCall (h : HostCall) : Except CallReject Instr :=
  match h.code.toNat with
  | 0 => .ok (.reset h.arg0 h.arg1)
  | 1 =>
    if h.arg0 < 4294967296 ∧ h.arg1 < 256 then
      .ok (.write (BitVec.ofNat 32 h.arg0) (BitVec.ofNat 8 h.arg1))
    else .error .operandTooWide
  | 2 =>
    if h.arg0 < 4294967296 then .ok (.read (BitVec.ofNat 32 h.arg0)) else .error .operandTooWide
  | 3 => .ok (.generate h.arg0)
  | 4 => .ok (.setVolume h.arg0)
  | 5 => .ok .tick
  | _ => .error .noSuchCode

/-- What an instruction stands as outside the block: an entry word in the queue, or a host call. -/
inductive Coded where
  | entry (e : EntryWord)
  | call (h : HostCall)
  deriving DecidableEq, Repr

/-- Decoding of either kind. -/
def decode (p : Config.Params) : Coded → Except CallReject Instr
  | .entry e => .ok (decodeEntry p e)
  | .call h => decodeCall h

/-! ## The encoder -/

/-- An entry of format G, register `r` (R81: `A[31:4] = 0`). -/
def globalEntry (r : BitVec 4) (v : Byte) : EntryWord := 0#28 ++ r ++ v

/-- An entry of format C (R81: `A[31:7] = 0b10`, channel, register). -/
def channelEntry (r : BitVec 4) (c : BitVec 3) (v : Byte) : EntryWord := 2#25 ++ c ++ r ++ v

/-- An entry of format O (R81: `A[31:9] = 1`, channel, operator, register). -/
def operatorEntry (r : BitVec 4) (c : BitVec 3) (k : BitVec 2) (v : Byte) : EntryWord :=
  1#23 ++ c ++ k ++ r ++ v

/-- An entry of format P (R81: bit 31 of the address set, `A[30:16]` reserved). -/
def pseudoEntry (n : BitVec 24) : EntryWord := 1#1 ++ 0#15 ++ n

/-- The encoding of an instruction under the reference map (R84, R87), reserved bits 0 (R88). UNMAPPED has
no operands; it is written as the first unmapped key, 0x005 (R86), with value 0. -/
def encode : Instr → Coded
  | .statusW => .entry (globalEntry 0 0)
  | .lfoAmFreq f => .entry (globalEntry 1 f)
  | .lfoPmFreq f => .entry (globalEntry 2 f)
  | .lfoWave am pm => .entry (globalEntry 3 (0#2 ++ pm ++ 0#2 ++ am))
  | .key c on => .entry (globalEntry 4 (BitVec.ofBool on ++ 0#4 ++ c))
  | .freqLo c lo => .entry (channelEntry 0 c lo)
  | .freqHi c fhi block => .entry (channelEntry 1 c (0#2 ++ block ++ fhi))
  | .algFb c alg fb => .entry (channelEntry 2 c (0#2 ++ fb ++ alg))
  | .panLfo c pan ams pms => .entry (channelEntry 3 c (0#1 ++ pms ++ ams ++ pan))
  | .mulDt c k mul dt => .entry (operatorEntry 0 c k (0#1 ++ dt ++ mul))
  | .tl c k level => .entry (operatorEntry 1 c k (0#1 ++ level))
  | .ar c k rate => .entry (operatorEntry 2 c k (0#2 ++ rate))
  | .dr c k rate => .entry (operatorEntry 3 c k (0#2 ++ rate))
  | .sr c k rate => .entry (operatorEntry 4 c k (0#2 ++ rate))
  | .rr c k rate => .entry (operatorEntry 5 c k (0#2 ++ rate))
  | .slKs c k sl ks => .entry (operatorEntry 6 c k (0#2 ++ ks ++ sl))
  | .egtSsg c k ssg hold ignk =>
    .entry (operatorEntry 7 c k (0#2 ++ BitVec.ofBool ignk ++ BitVec.ofBool hold ++ ssg))
  | .wait n => .entry (pseudoEntry n)
  | .unmapped => .entry (globalEntry 5 0)
  | .reset clk rate => .call ⟨0, clk, rate⟩
  | .write addr value => .call ⟨1, addr.toNat, value.toNat⟩
  | .read addr => .call ⟨2, addr.toNat, 0⟩
  | .generate count => .call ⟨3, count, 0⟩
  | .setVolume level => .call ⟨4, level, 0⟩
  | .tick => .call ⟨5, 0, 0⟩

/-! ## The assembler -/

/-- One line of a host script as the host call it stands for: a register-write command is "an abbreviation
of one `WR`" (R88). -/
def assemble (i : Instr) : HostCall :=
  match encode i with
  | .entry e => ⟨1, (e.extractLsb' 8 32).toNat, (e.extractLsb' 0 8).toNat⟩
  | .call h => h

/-- `KEYON c` (R89). -/
def keyOnMacro (c : BitVec 3) : List Instr := [.key c true]

/-- `KEYOFF c` (R89). -/
def keyOffMacro (c : BitVec 3) : List Instr := [.key c false]

/-- `FREQ c, fnum, block`: the low byte, then the high bits (R89). -/
def freqMacro (c : BitVec 3) (fnum : BitVec 11) (block : BitVec 3) : List Instr :=
  [.freqLo c (fnum.extractLsb' 0 8), .freqHi c (fnum.extractLsb' 8 3) block]

/-- `NOP` (R89). -/
def nopMacro : List Instr := [.statusW]

/-- `HARDRESET c` (R89, R318): for each operator the forced sustain and release rates, then the wait, then
the key-on. Both constants are free values of Config.lean. -/
def hardResetMacro (ops : Config.OperatorCount) (c : BitVec 3) : List Instr :=
  ((List.range ops.count).flatMap fun k =>
      [.sr c (BitVec.ofNat 2 k) Config.hrRateValue, .rr c (BitVec.ofNat 2 k) Config.hrRateValue]) ++
    (.wait Config.hrWaitCycles :: keyOnMacro c)

/-! ## The opcode table's words -/

/-- The host call whose 3-bit code the opcode table gives, every operand 0. -/
def tableCall (w : Nat) : HostCall := ⟨BitVec.ofNat 3 w, 0, 0⟩

/-- The instruction of a word numbered as spec/opcode_table.json numbers it: a row of 3 bits (one whole
byte) is a host operation code, a row of 40 bits an entry word, read by the reference map. -/
def decodeTableWord (nbits w : Nat) : Option Instr :=
  if nbits ≤ 8 then
    match decodeCall (tableCall w) with
    | .ok i => some i
    | .error _ => none
  else some (decodeEntry Config.reference (BitVec.ofNat 40 w))

end Sys2Proof
end

