-- ==== Sys2Proof/Machine/State.lean ====
section
/-!
DEFINITION. The state of one instance (R20): one global record, `NCH` channel records, `OPS` operator records
in each; the reasons a step can stop; the state after reset (R52).

Three fields are the MODEL's, not the block's: `cfg` (the constants of R7, which make one model serve every
instance), `script` (the host's operations still to come, an input by R22) and `reply` (what the latest host
operation returned to the host).
-/

namespace Sys2Proof.Machine

/-- The envelope modes, `EG_MODE` (R40, R140). The codes 6 and 7 are written by no rule, so the type has
six values (U10). -/
inductive EgMode where
  | off
  | attack
  | decay
  | sustain
  | sustainHold
  | release
  deriving DecidableEq, Repr

/-- The 3-bit encoding of a mode (R40). -/
def EgMode.code : EgMode → BitVec 3
  | .off => 0
  | .attack => 1
  | .decay => 2
  | .sustain => 3
  | .sustainHold => 4
  | .release => 5

/-- One operator record `OP[c][k]` (R23, R38 to R44). -/
structure Operator where
  /-- `MUL`, frequency multiple selector. -/
  mul : BitVec 4
  /-- `DT`, detune selector: size in bits 1 to 0, direction in bit 2. -/
  dt : BitVec 3
  /-- `TL`, total level. -/
  tl : BitVec 7
  /-- `AR`, attack rate. -/
  ar : BitVec 6
  /-- `DR`, decay rate. -/
  dr : BitVec 6
  /-- `SR`, sustain rate. -/
  sr : BitVec 6
  /-- `RR`, release rate. -/
  rr : BitVec 6
  /-- `SL`, sustain level. -/
  sl : BitVec 4
  /-- `KS`, key-scale selector. -/
  ks : BitVec 2
  /-- `SSG`, SSG-EG mode. -/
  ssg : BitVec 4
  /-- `EGT_HOLD`, hold at the sustain level. -/
  egtHold : Bool
  /-- `EGT_IGNK`, ignore key-off. -/
  egtIgnk : Bool
  /-- `PHASE`, the phase accumulator (R38). -/
  phase : BitVec 20
  /-- `INC`, the cached phase increment (R39). -/
  inc : BitVec 20
  /-- `EG_MODE` (R40). -/
  egMode : EgMode
  /-- `EG_LEVEL`, 0 loudest, 1023 the ceiling (R41). -/
  egLevel : BitVec 10
  /-- `EG_ACC`, fraction of the step accumulator (R42). -/
  egAcc : BitVec 16
  /-- `EG_ATKPOS`, position in the attack curve (R43). -/
  egAtkPos : BitVec 6
  /-- `ENABLE` (R44). -/
  enable : Bool
  deriving DecidableEq, Repr

/-- One channel record `CH[c]` (R23, R32 to R35), with its operators (R20). -/
structure Channel where
  /-- `FLO_LATCH`, the low frequency byte as written. -/
  floLatch : BitVec 8
  /-- `FHI_LATCH`, the high frequency bits and the block as written. -/
  fhiLatch : BitVec 6
  /-- `LO_LANDED`. -/
  loLanded : Bool
  /-- `HI_LANDED`. -/
  hiLanded : Bool
  /-- `FNUM`, the active mantissa. -/
  fnum : BitVec 11
  /-- `BLOCK`, the active exponent. -/
  block : BitVec 3
  /-- `KCODE`, the key code of the active frequency. -/
  kcode : BitVec 5
  /-- `ALG`, algorithm selector. -/
  alg : BitVec 3
  /-- `FB`, feedback amount. -/
  fb : BitVec 3
  /-- `PAN`, bit 1 left, bit 0 right. -/
  pan : BitVec 2
  /-- `AMS`, amplitude-LFO sensitivity. -/
  ams : BitVec 2
  /-- `PMS`, phase-LFO sensitivity. -/
  pms : BitVec 3
  /-- `KEYLATCH`, the last key state (R33). -/
  keyLatch : Bool
  /-- `FBH1`, operator 0's latest output, two's complement (R34). -/
  fbh1 : BitVec 14
  /-- `FBH2`, operator 0's output before it, two's complement (R34). -/
  fbh2 : BitVec 14
  /-- `CHOUT`, the channel sample, two's complement (R35). -/
  chout : BitVec 16
  /-- `OP[c][0]` to `OP[c][OPS-1]`. -/
  ops : List Operator
  deriving DecidableEq, Repr

/-- What a host operation hands back to the host (R212, R218, R234, R237). The model's own record of it. -/
inductive Reply where
  /-- Nothing is returned. -/
  | done
  /-- The byte of a `read`. -/
  | byte (v : Byte)
  /-- The sample pairs of a `generate` or `tick`, left before right, in time order (R234, R241). -/
  | samples (l : List (BitVec 32 × BitVec 32))
  deriving DecidableEq, Repr

/-- The state of one instance. -/
structure State where
  /-- The MODEL's field: the instance's structural parameters (R7). No operation writes it. -/
  cfg : Config.Params
  /-- `READY` (R25). -/
  ready : Bool
  /-- `CLK_NUM`, the chip clock in hertz (R26). -/
  clkNum : BitVec 32
  /-- `CLK_DEN`, the output sample rate in hertz (R26). -/
  clkDen : BitVec 32
  /-- `CPS`, chip clocks per sample with 12 fraction bits (R26, R123). -/
  cps : BitVec 24
  /-- `CLKACC`, the fractional clock divider (R27). -/
  clkAcc : BitVec 32
  /-- `QUEUE`, head first, no bound on its length (R28, R211). -/
  queue : List Entry
  /-- `BUSY_CNT`, chip clocks until the next acceptance (R29). -/
  busyCnt : BitVec 24
  /-- `VOL`, the global log-domain offset (R30). -/
  vol : BitVec 12
  /-- `LFO_AM_FREQ` (R23). -/
  lfoAmFreq : BitVec 8
  /-- `LFO_PM_FREQ` (R23). -/
  lfoPmFreq : BitVec 8
  /-- `LFO_AM_WAVE` (R23). -/
  lfoAmWave : BitVec 2
  /-- `LFO_PM_WAVE` (R23). -/
  lfoPmWave : BitVec 2
  /-- `LFO_AM_CNT` (R31). -/
  lfoAmCnt : BitVec 22
  /-- `LFO_PM_CNT` (R31). -/
  lfoPmCnt : BitVec 22
  /-- `OUT_L`, two's complement (R31, R241). -/
  outL : BitVec 32
  /-- `OUT_R`, two's complement (R31, R241). -/
  outR : BitVec 32
  /-- `CH[0]` to `CH[NCH-1]` (R20). -/
  ch : List Channel
  /-- The MODEL's field: the host's operations still to come, next one first (R22: an input, not state). -/
  script : List HostCall
  /-- The MODEL's field: what the latest host operation returned. -/
  reply : Reply
  deriving DecidableEq, Repr

/-- The block has no fault: "There is no recoverable-error taxonomy in the numeric core" (R280), and no rule
treats a behaviour as `fault` or `stuck` (spec/93). So the type has no constructor. -/
inductive Fault where
  deriving DecidableEq, Repr

/-- Why a step is refused (R283): an operation outside the block's contract gets no result and no next
state. Every refusal but `notModelled` is one the spec itself names, so it is safe. -/
inductive Refusal where
  /-- Raised by an arm of exec that has no meaning yet; no arm uses it. Safe: the model stops. -/
  | notModelled (mnemonic : String)
  /-- Raised by `write`, `read`, `generate`, `tick` and `setVolume` while `READY = 0` (R284, U2). Safe:
  the spec gives no next state. -/
  | notReady
  /-- Raised by `reset` with arguments outside R302 (U3). Safe: the spec gives no next state. -/
  | resetArguments
  /-- Raised by `setVolume` with a level above 4095 (R240, U4). Safe: the spec gives no next state. -/
  | volumeLevel
  /-- Raised by a step whose host call is no operation (R87, R283, U5). Safe: the spec gives no next
  state. -/
  | badCall (why : CallReject)
  deriving DecidableEq, Repr

/-! ## Reset -/

/-- An operator right after `reset` (R52, R301): Off, disabled, at the ceiling level, everything else 0. -/
def Operator.initial : Operator :=
  { mul := 0, dt := 0, tl := 0, ar := 0, dr := 0, sr := 0, rr := 0, sl := 0, ks := 0, ssg := 0
    egtHold := false, egtIgnk := false, phase := 0, inc := 0, egMode := .off, egLevel := 1023
    egAcc := 0, egAtkPos := 0, enable := false }

/-- A channel right after `reset`: panned to both outputs, everything else 0 (R52, R301). -/
def Channel.initial (ops : Config.OperatorCount) : Channel :=
  { floLatch := 0, fhiLatch := 0, loLanded := false, hiLanded := false, fnum := 0, block := 0
    kcode := 0, alg := 0, fb := 0, pan := 3, ams := 0, pms := 0, keyLatch := false, fbh1 := 0
    fbh2 := 0, chout := 0, ops := List.replicate ops.count Operator.initial }

/-- The state after `reset(clk, rate)` of an instance whose host has `script` still to run (R52, R301). -/
def State.afterReset (cfg : Config.Params) (script : List HostCall) (clk rate : Nat) : State :=
  { cfg := cfg, ready := true, clkNum := BitVec.ofNat 32 clk, clkDen := BitVec.ofNat 32 rate
    cps := BitVec.ofNat 24 (clk * 4096 / rate), clkAcc := 0, queue := [], busyCnt := 0, vol := 0
    lfoAmFreq := 0, lfoPmFreq := 0, lfoAmWave := 0, lfoPmWave := 0, lfoAmCnt := 0, lfoPmCnt := 0
    outL := 0, outR := 0, ch := List.replicate cfg.nch (Channel.initial cfg.ops)
    script := script, reply := .done }

/-- The machine right after reset. The spec's reset has two arguments and an instance to act on: DESIGN
CHOICE, the reference instance (R7) after the document's own `reset(7670454, 44100)`, with no host
operation waiting (assumption 1). -/
def State.reset : State := State.afterReset Config.reference [] 7670454 44100

/-- The machine before its first `reset`: `READY = 0`, and "every other element is unspecified and no rule
reads it" (R51, R305). DESIGN CHOICE: the unspecified elements hold their reset values (assumption 2). -/
def State.powerOn : State := { State.reset with ready := false }

end Sys2Proof.Machine
end

