-- ==== Sys2Proof/Machine/Ops.lean ====
section
/-!
DEFINITION. The shared operations over the records: indexed reads and updates of channels and operators, the
scheduler's bookkeeping, the READY check of the host operations, and the arithmetic shift of R11.

There is no operation that takes an exception and none that returns from one: the block has neither (R280,
R288, R289).
-/

namespace Sys2Proof.Machine

/-- `asr(x, n) = floor(x / 2^n)` on any integer (R11). -/
def asr (x : Int) (n : Nat) : Int := x >>> n

/-- `CH[c]`; none for a channel the instance does not have (R37). -/
def State.chan? (s : State) (c : Nat) : Option Channel := s.ch[c]?

/-- `OP[c][k]`; none for an operator the instance does not have (R45). -/
def State.oper? (s : State) (c k : Nat) : Option Operator := (s.ch[c]?).bind (fun ch => ch.ops[k]?)

/-- `if c < NCH then CH[c] <- f(CH[c])`, the form of every channel command (R254 to R258). -/
def State.updChan (s : State) (c : Nat) (f : Channel → Channel) : State :=
  { s with ch := if c < s.cfg.nch then s.ch.modify c f else s.ch }

/-- An update of operator `k` of a channel. -/
def Channel.updOper (ch : Channel) (k : Nat) (f : Operator → Operator) : Channel :=
  { ch with ops := ch.ops.modify k f }

/-- `if c < NCH and k < OPS then OP[c][k] <- f(OP[c][k])`, the form of every operator command (R259 to
R266). -/
def State.updOper (s : State) (c k : Nat) (f : Operator → Operator) : State :=
  s.updChan c (fun ch => if k < s.cfg.ops.count then ch.updOper k f else ch)

/-- `BUSY_CNT <- d`: what SUBTICK does with the busy duration a command returns (R214). -/
def State.setBusy (s : State) (d : BitVec 24) : State := { s with busyCnt := d }

/-- The busy duration of every register write, mapped or not: `BUSY_WRITE` (R214, R268). -/
def State.setBusyWrite (s : State) : State := s.setBusy s.cfg.busyWrite

/-- `QUEUE <- QUEUE ++ [e]` (R212). -/
def State.enqueue (s : State) (e : Entry) : State := { s with queue := s.queue ++ [e] }

/-- What the host is handed back. -/
def State.withReply (s : State) (r : Reply) : State := { s with reply := r }

/-- The READY check of R284: a host operation other than `reset` is refused while `READY = 0`. -/
def whenReady (s : State) (k : State → Host.Outcome State Fault Refusal) :
    Host.Outcome State Fault Refusal :=
  if s.ready then k s else .refused .notReady

end Sys2Proof.Machine
end

