-- ==== Sys2Proof/Machine/Tables.lean ====
section
/-!
DEFINITION. The constant tables of the block (R22): read-only memories that only the datapath indexes (R49).

A table is written row by row as the spec prints it, and `romAt?` is its read port: outside a table it gives no
value (R111, spec/93 U1). Each table is then read through a function of its own, whose argument has exactly the
table's indices, so that a caller has to prove its index in range (R282: "a model that proves its indices in range
has proved the document's contract").
-/

namespace Sys2Proof.Machine

/-- Entry `i` of a table printed with `width` entries a row; none where the table has no such entry (R111). -/
def romAt? {α : Type} (rows : List (List α)) (width i : Nat) : Option α :=
  (rows[i / width]?).bind fun row => row[i % width]?

/-- `EXPTAB`, one octave of linear magnitudes, 8 entries a row (R100, R101). -/
def expTabRows : List (List Nat) :=
  [ [262144, 261435, 260728, 260023, 259320, 258619, 257920, 257222],
    [256527, 255833, 255141, 254452, 253763, 253077, 252393, 251711],
    [251030, 250351, 249674, 248999, 248326, 247654, 246985, 246317],
    [245651, 244987, 244324, 243664, 243005, 242348, 241692, 241039],
    [240387, 239737, 239089, 238442, 237798, 237155, 236513, 235874],
    [235236, 234600, 233966, 233333, 232702, 232073, 231445, 230820],
    [230195, 229573, 228952, 228333, 227716, 227100, 226486, 225874],
    [225263, 224654, 224046, 223441, 222836, 222234, 221633, 221034] ] ++ (
  [ [220436, 219840, 219245, 218653, 218061, 217472, 216884, 216297],
    [215712, 215129, 214547, 213967, 213389, 212812, 212236, 211663],
    [211090, 210519, 209950, 209382, 208816, 208252, 207689, 207127],
    [206567, 206008, 205451, 204896, 204342, 203789, 203238, 202689],
    [202141, 201594, 201049, 200505, 199963, 199423, 198883, 198346],
    [197809, 197274, 196741, 196209, 195678, 195149, 194622, 194095],
    [193571, 193047, 192525, 192005, 191485, 190968, 190451, 189936],
    [189423, 188911, 188400, 187890, 187382, 186876, 186370, 185866] ] ++ (
  [ [185364, 184863, 184363, 183864, 183367, 182871, 182377, 181884],
    [181392, 180901, 180412, 179924, 179438, 178953, 178469, 177986],
    [177505, 177025, 176546, 176069, 175593, 175118, 174645, 174172],
    [173701, 173232, 172763, 172296, 171830, 171366, 170902, 170440],
    [169979, 169520, 169061, 168604, 168148, 167694, 167240, 166788],
    [166337, 165887, 165439, 164991, 164545, 164100, 163657, 163214],
    [162773, 162333, 161894, 161456, 161019, 160584, 160150, 159717],
    [159285, 158854, 158425, 157996, 157569, 157143, 156718, 156294] ] ++ (
  [ [155872, 155450, 155030, 154611, 154193, 153776, 153360, 152945],
    [152532, 152119, 151708, 151298, 150889, 150481, 150074, 149668],
    [149263, 148860, 148457, 148056, 147655, 147256, 146858, 146461],
    [146065, 145670, 145276, 144883, 144491, 144101, 143711, 143323],
    [142935, 142549, 142163, 141779, 141395, 141013, 140632, 140251],
    [139872, 139494, 139117, 138741, 138366, 137991, 137618, 137246],
    [136875, 136505, 136136, 135768, 135401, 135035, 134669, 134305],
    [133942, 133580, 133219, 132859, 132499, 132141, 131784, 131427] ])))

/-- Every index of `EXPTAB` has an entry. -/
theorem expTab_inRange : ∀ i : Fin 256, (romAt? expTabRows 8 i).isSome = true := by decide +kernel

/-- `EXPTAB[i]` for `i` in 0 to 255 (R100). -/
def expTab (i : Fin 256) : Nat := (romAt? expTabRows 8 i).get (expTab_inRange i)

/-- `SINI`, the first quarter of the sine wave, 8 entries a row (R108). -/
def siniRows : List (List Nat) :=
  [ [804, 2413, 4021, 5629, 7237, 8845, 10452, 12059],
    [13666, 15272, 16878, 18482, 20086, 21690, 23292, 24894],
    [26495, 28095, 29693, 31291, 32887, 34482, 36076, 37669],
    [39260, 40849, 42438, 44024, 45609, 47192, 48773, 50353],
    [51930, 53506, 55080, 56651, 58221, 59788, 61353, 62915],
    [64476, 66034, 67589, 69142, 70692, 72239, 73784, 75326],
    [76866, 78402, 79935, 81466, 82993, 84517, 86038, 87556],
    [89070, 90582, 92089, 93594, 95094, 96591, 98085, 99575] ] ++ (
  [ [101061, 102543, 104021, 105496, 106966, 108433, 109895, 111353],
    [112808, 114257, 115703, 117144, 118581, 120013, 121441, 122864],
    [124283, 125696, 127106, 128510, 129909, 131304, 132694, 134078],
    [135458, 136833, 138202, 139566, 140925, 142279, 143627, 144970],
    [146307, 147639, 148966, 150286, 151601, 152911, 154214, 155512],
    [156804, 158090, 159370, 160644, 161913, 163174, 164430, 165680],
    [166923, 168160, 169391, 170616, 171834, 173045, 174250, 175448],
    [176640, 177825, 179004, 180176, 181341, 182499, 183650, 184794] ] ++ (
  [ [185932, 187062, 188185, 189302, 190411, 191513, 192607, 193695],
    [194775, 195848, 196913, 197972, 199022, 200065, 201101, 202129],
    [203149, 204162, 205167, 206165, 207154, 208136, 209110, 210076],
    [211034, 211984, 212927, 213861, 214787, 215705, 216615, 217517],
    [218411, 219296, 220173, 221042, 221903, 222755, 223599, 224434],
    [225261, 226079, 226889, 227691, 228483, 229268, 230043, 230810],
    [231568, 232318, 233059, 233791, 234514, 235228, 235934, 236630],
    [237318, 237997, 238667, 239328, 239979, 240622, 241256, 241881] ] ++ (
  [ [242496, 243103, 243700, 244288, 244867, 245436, 245997, 246548],
    [247090, 247622, 248146, 248660, 249164, 249659, 250145, 250622],
    [251088, 251546, 251994, 252432, 252861, 253281, 253691, 254091],
    [254482, 254863, 255235, 255597, 255949, 256292, 256625, 256949],
    [257263, 257567, 257861, 258146, 258421, 258686, 258942, 259187],
    [259423, 259650, 259866, 260073, 260270, 260457, 260634, 260802],
    [260959, 261107, 261245, 261373, 261492, 261600, 261699, 261788],
    [261866, 261936, 261995, 262044, 262084, 262113, 262133, 262143] ])))

/-- Every index of `SINI` has an entry. -/
theorem sini_inRange : ∀ i : Fin 256, (romAt? siniRows 8 i).isSome = true := by decide +kernel

/-- `SINI[i]` for `i` in 0 to 255 (R108). -/
def sini (i : Fin 256) : Nat := (romAt? siniRows 8 i).get (sini_inRange i)

/-- `SINATT`, the attenuations of the quarter wave, 16 entries a row (R109). -/
def sinAttRows : List (List Nat) :=
  [ [2137, 1732, 1543, 1419, 1326, 1252, 1190, 1138, 1091, 1050, 1014, 980, 949, 921, 895, 870],
    [847, 825, 805, 786, 767, 750, 733, 717, 702, 687, 673, 659, 646, 634, 622, 610],
    [598, 587, 577, 566, 556, 546, 537, 528, 519, 510, 501, 493, 485, 477, 469, 461],
    [454, 446, 439, 432, 425, 419, 412, 406, 399, 393, 387, 381, 375, 369, 364, 358] ] ++ (
  [ [353, 347, 342, 337, 332, 327, 322, 317, 312, 307, 303, 298, 293, 289, 285, 280],
    [276, 272, 268, 264, 260, 256, 252, 248, 244, 241, 237, 233, 230, 226, 223, 219],
    [216, 213, 209, 206, 203, 200, 196, 193, 190, 187, 184, 181, 178, 176, 173, 170],
    [167, 164, 162, 159, 156, 154, 151, 149, 146, 144, 141, 139, 137, 134, 132, 130] ] ++ (
  [ [127, 125, 123, 121, 119, 116, 114, 112, 110, 108, 106, 104, 102, 100, 98, 97],
    [95, 93, 91, 89, 87, 86, 84, 82, 81, 79, 77, 76, 74, 73, 71, 69],
    [68, 66, 65, 63, 62, 61, 59, 58, 57, 55, 54, 53, 51, 50, 49, 48],
    [46, 45, 44, 43, 42, 41, 39, 38, 37, 36, 35, 34, 33, 32, 31, 30] ] ++ (
  [ [29, 28, 27, 27, 26, 25, 24, 23, 22, 22, 21, 20, 19, 19, 18, 17],
    [16, 16, 15, 14, 14, 13, 13, 12, 11, 11, 10, 10, 9, 9, 8, 8],
    [7, 7, 7, 6, 6, 5, 5, 5, 4, 4, 4, 3, 3, 3, 3, 2],
    [2, 2, 2, 2, 1, 1, 1, 1, 1, 1, 1, 1, 1, 1, 1, 1] ])))

/-- Every index of `SINATT` has an entry. -/
theorem sinAtt_inRange : ∀ i : Fin 256, (romAt? sinAttRows 16 i).isSome = true := by decide +kernel

/-- `SINATT[i]` for `i` in 0 to 255 (R109). -/
def sinAtt (i : Fin 256) : Nat := (romAt? sinAttRows 16 i).get (sinAtt_inRange i)

/-- `RATE_INC`, the step accumulator's increment by effective rate, 8 entries a row (R142). -/
def rateIncRows : List (List Nat) :=
  [ [0, 0, 0, 0, 8, 10, 12, 14],
    [16, 20, 24, 28, 32, 40, 48, 56],
    [64, 80, 96, 112, 128, 160, 192, 224],
    [256, 320, 384, 448, 512, 640, 768, 896],
    [1024, 1280, 1536, 1792, 2048, 2560, 3072, 3584],
    [4096, 5120, 6144, 7168, 8192, 10240, 12288, 14336],
    [16384, 20480, 24576, 28672, 32768, 40960, 49152, 57344],
    [65536, 81920, 98304, 114688, 131072, 163840, 196608, 229376] ]

/-- Every index of `RATE_INC` has an entry. -/
theorem rateInc_inRange : ∀ i : Fin 64, (romAt? rateIncRows 8 i).isSome = true := by decide +kernel

/-- `RATE_INC[i]` for `i` in 0 to 63 (R142). -/
def rateInc (i : Fin 64) : Nat := (romAt? rateIncRows 8 i).get (rateInc_inRange i)

/-- `ATTACK_CURVE`, the level by attack position, 10 entries a row (R143). -/
def attackCurveRows : List (List Nat) :=
  [ [1023, 895, 783, 685, 599, 524, 458, 400, 349, 305],
    [266, 232, 202, 176, 153, 133, 116, 101, 88, 76],
    [66, 57, 49, 42, 36, 31, 27, 23, 20, 17],
    [14, 12, 10, 8, 6, 5, 4, 3, 2, 1],
    [0] ]

/-- Every index of `ATTACK_CURVE` has an entry. -/
theorem attackCurve_inRange : ∀ i : Fin 41, (romAt? attackCurveRows 10 i).isSome = true := by decide +kernel

/-- `ATTACK_CURVE[i]` for `i` in 0 to 40 (R143). -/
def attackCurve (i : Fin 41) : Nat := (romAt? attackCurveRows 10 i).get (attackCurve_inRange i)

/-- `AMTAB`: triangle, saw up, saw down, square, by 32 entries (R174). -/
def amTabRows : List (List Nat) :=
  [ [0, 4, 8, 12, 16, 20, 24, 28, 32, 36, 40, 44, 48, 52, 56, 60,
      60, 56, 52, 48, 44, 40, 36, 32, 28, 24, 20, 16, 12, 8, 4, 0],
    [0, 2, 4, 6, 8, 10, 12, 14, 16, 18, 20, 22, 24, 26, 28, 30,
      32, 34, 36, 38, 40, 42, 44, 46, 48, 50, 52, 54, 56, 58, 60, 62],
    [62, 60, 58, 56, 54, 52, 50, 48, 46, 44, 42, 40, 38, 36, 34, 32,
      30, 28, 26, 24, 22, 20, 18, 16, 14, 12, 10, 8, 6, 4, 2, 0],
    List.replicate 16 0 ++ List.replicate 16 63 ]

/-- Every index of `AMTAB` has an entry. -/
theorem amTab_inRange :
    ∀ (wave : BitVec 2) (i : BitVec 5), (romAt? amTabRows 32 (wave.toNat * 32 + i.toNat)).isSome = true := by
  decide +kernel

/-- `AMTAB[wave][i]` (R174); a 2-bit selector and a 5-bit index are always in range (R176). -/
def amTab (wave : BitVec 2) (i : BitVec 5) : Nat :=
  (romAt? amTabRows 32 (wave.toNat * 32 + i.toNat)).get (amTab_inRange wave i)

/-- `PMTAB`: triangle, saw up, saw down, square, by 32 signed entries (R175). -/
def pmTabRows : List (List Int) :=
  [ [0, 4, 8, 12, 16, 20, 24, 28, 32, 28, 24, 20, 16, 12, 8, 4,
      0, -4, -8, -12, -16, -20, -24, -28, -32, -28, -24, -20, -16, -12, -8, -4],
    [-32, -30, -28, -26, -24, -22, -20, -18, -16, -14, -12, -10, -8, -6, -4, -2,
      0, 2, 4, 6, 8, 10, 12, 14, 16, 18, 20, 22, 24, 26, 28, 30],
    [30, 28, 26, 24, 22, 20, 18, 16, 14, 12, 10, 8, 6, 4, 2, 0,
      -2, -4, -6, -8, -10, -12, -14, -16, -18, -20, -22, -24, -26, -28, -30, -32],
    List.replicate 16 32 ++ List.replicate 16 (-32) ]

/-- Every index of `PMTAB` has an entry. -/
theorem pmTab_inRange :
    ∀ (wave : BitVec 2) (i : BitVec 5), (romAt? pmTabRows 32 (wave.toNat * 32 + i.toNat)).isSome = true := by
  decide +kernel

/-- `PMTAB[wave][i]` (R175). -/
def pmTab (wave : BitVec 2) (i : BitVec 5) : Int :=
  (romAt? pmTabRows 32 (wave.toNat * 32 + i.toNat)).get (pmTab_inRange wave i)

/-- `ALG2`: for each algorithm of a two-operator channel, the modulators of each operator (R192). -/
def mods2 : List (List (List Nat)) :=
  [ [[], [0]],
    [[], []] ]

/-- `ALG2`: the carriers of each algorithm (R192). -/
def carriers2 : List (List Nat) := [[1], [0, 1]]

/-- `ALG4`: for each algorithm of a four-operator channel, the modulators of each operator (R192). -/
def mods4 : List (List (List Nat)) :=
  [ [[], [0], [1], [2]],
    [[], [], [0, 1], [2]],
    [[], [], [1], [0, 2]],
    [[], [0], [], [1, 2]],
    [[], [0], [], [2]],
    [[], [0], [0], [0]],
    [[], [0], [], []],
    [[], [], [], []] ]

/-- `ALG4`: the carriers of each algorithm (R192). -/
def carriers4 : List (List Nat) :=
  [[3], [3], [3], [3], [1, 3], [1, 2, 3], [1, 2, 3], [0, 1, 2, 3]]

end Sys2Proof.Machine
end

