-- ==== Sys2Proof/Machine/Envelope.lean ====
section
/-!
DEFINITION. envelope_generator_fsm: the per-sample step, key-on, key-off, and the level handed to the operator
(R140 to R161).
-/

namespace Sys2Proof.Machine

/-- The requested rate of a mode that moves: `AR`, `DR`, `SR` or `RR` (R148). Off and SustainHold have
none. -/
def Operator.modeRate (o : Operator) : Nat :=
  match o.egMode with
  | .off => 0
  | .attack => o.ar.toNat
  | .decay => o.dr.toNat
  | .sustain => o.sr.toNat
  | .sustainHold => 0
  | .release => o.rr.toNat

/-- The effective rate `min(rate + (KCODE >> (5 - KS)), 63)` (R149), an index of `RATE_INC`. -/
def effectiveRate (rate : Nat) (kcode : BitVec 5) (ks : BitVec 2) : Fin 64 :=
  ⟨min (rate + kcode.toNat >>> (5 - ks.toNat)) 63, by omega⟩

/-- A level step clamped at the ceiling 1023 (R152, R154). -/
def levelUp (level : BitVec 10) (steps : Nat) : BitVec 10 :=
  BitVec.ofNat 10 (min (level.toNat + steps) 1023)

/-- The attack position after `steps` steps, at most 40, an index of `ATTACK_CURVE` (R151). -/
def Operator.attackPos (steps : Nat) (o : Operator) : Fin 41 :=
  ⟨min (o.egAtkPos.toNat + steps) 40, by omega⟩

/-- `attack_step` (R151). -/
def Operator.attackStep (steps : Nat) (o : Operator) : Operator :=
  let pos := o.attackPos steps
  let level := attackCurve pos
  let o' := { o with egAtkPos := BitVec.ofNat 6 pos, egLevel := BitVec.ofNat 10 level }
  if level = 0 then { o' with egMode := .decay, egAcc := 0 } else o'

/-- `decay_step`: the level, then the exit test against the threshold `SL << 6` (R152, R153). -/
def Operator.decayStep (steps : Nat) (o : Operator) : Operator :=
  let level := levelUp o.egLevel steps
  let o' := { o with egLevel := level }
  if o.sl.toNat <<< 6 ≤ level.toNat then
    { o' with egMode := if o.egtHold then .sustainHold else .sustain, egAcc := 0 }
  else o'

/-- `sustain_release_step` (R154, R155): reaching the ceiling is the one way to Off. -/
def Operator.sustainReleaseStep (steps : Nat) (o : Operator) : Operator :=
  let level := levelUp o.egLevel steps
  let o' := { o with egLevel := level }
  if level = 1023 then { o' with egMode := .off, enable := false, egAcc := 0 } else o'

/-- The step accumulator after adding the rate's increment: 16 fraction bits, whole steps above (R150). -/
def Operator.stepAcc (kcode : BitVec 5) (o : Operator) : Nat :=
  o.egAcc.toNat + rateInc (effectiveRate o.modeRate kcode o.ks)

/-- `eg_step(c, k)` (R144). -/
def Operator.egStep (kcode : BitVec 5) (o : Operator) : Operator :=
  let acc := o.stepAcc kcode
  let steps := acc >>> 16
  let o' := { o with egAcc := BitVec.ofNat 16 acc }
  match o.egMode with
  | .off => o
  | .attack => o'.attackStep steps
  | .decay => o'.decayStep steps
  | .sustain => o'.sustainReleaseStep steps
  | .sustainHold => o
  | .release => o'.sustainReleaseStep steps

/-- What key-on does to each operator of the channel (R156). -/
def Operator.keyOn (o : Operator) : Operator :=
  { o with egMode := .attack, egLevel := 1023, egAtkPos := 0, egAcc := 0, enable := true, phase := 0 }

/-- `keyon(c)` (R156). -/
def Channel.keyOn (ch : Channel) : Channel :=
  { ch with keyLatch := true, fbh1 := 0, fbh2 := 0, ops := ch.ops.map Operator.keyOn }

/-- The modes key-off acts on: Attack, Decay, Sustain and SustainHold (R158). -/
def EgMode.keyed : EgMode → Bool
  | .off => false
  | .attack => true
  | .decay => true
  | .sustain => true
  | .sustainHold => true
  | .release => false

/-- What key-off does to each operator of the channel: Release from the level it has, unless it ignores
key-off or is not keyed (R158). -/
def Operator.keyOff (o : Operator) : Operator :=
  if !o.egtIgnk && o.egMode.keyed then { o with egMode := .release, egAcc := 0 } else o

/-- `keyoff(c)` (R158). -/
def Channel.keyOff (ch : Channel) : Channel :=
  { ch with keyLatch := false, ops := ch.ops.map Operator.keyOff }

/-- `eg_out(c, k)`: the SSG-EG transform applies in Decay, Sustain and SustainHold only (R161). -/
def Operator.egOut (o : Operator) : BitVec 10 :=
  match o.egMode with
  | .off => o.egLevel
  | .attack => o.egLevel
  | .decay => Config.ssgXform o.ssg o.egLevel
  | .sustain => Config.ssgXform o.ssg o.egLevel
  | .sustainHold => Config.ssgXform o.ssg o.egLevel
  | .release => o.egLevel

end Sys2Proof.Machine
end

