-- ==== Sys2Proof/Machine/Flags.lean ====
section
/-!
DEFINITION. The block's flags (R46). It has no arithmetic condition codes: what a processor's manual gives as
flags are here the two predicates the host can read in STATUS and the landed flags of the double buffer.
-/

namespace Sys2Proof.Machine

/-- The busy flag, `BUSY_CNT != 0` (R29, R210). -/
def State.busyFlag (s : State) : Bool := s.busyCnt != 0

/-- The pending flag, `QUEUE` not empty (R46, R210). -/
def State.pendingFlag (s : State) : Bool := !s.queue.isEmpty

/-- STATUS at the moment of the read: bit 7 busy, bit 6 pending, bits 5 to 0 zero (R47). -/
def State.status (s : State) : Byte :=
  BitVec.ofBool s.busyFlag ++ BitVec.ofBool s.pendingFlag ++ 0#6

/-- The instance's map makes STATUS readable at this key (R64). -/
def readsStatus (p : Config.Params) (a : Key) : Bool :=
  p.map.statusKeys.any fun r => a &&& r.mask == r.pattern

/-- The readable key space (R218): STATUS where the map has it, which is key 0 in the reference map, and the
sentinel at every other key. -/
def State.readKey (s : State) (a : Key) : Byte :=
  if readsStatus s.cfg a then s.status else s.cfg.readSentinel

/-- Both frequency bytes have landed (R125). -/
def Channel.bothLanded (ch : Channel) : Bool := ch.loLanded && ch.hiLanded

end Sys2Proof.Machine
end

