-- ==== Sys2Proof/Machine/Operands.lean ====
section
/-!
DEFINITION. The operands that are assembled or scaled after decoding (R82): the active frequency of a retune,
the key code, and the factors of the phase increment.
-/

namespace Sys2Proof.Machine

/-- `FNUM = {FHI_LATCH[2:0], FLO_LATCH[7:0]}` (R82, R125). -/
def fnumOf (flo : BitVec 8) (fhi : BitVec 6) : BitVec 11 := fhi.extractLsb' 0 3 ++ flo

/-- `BLOCK = FHI_LATCH[5:3]` (R82, R125). -/
def blockOf (fhi : BitVec 6) : BitVec 3 := fhi.extractLsb' 3 3

/-- `KCODE = (BLOCK << 2) | FNUM[10:9]` (R126). -/
def keyCode (block : BitVec 3) (fnum : BitVec 11) : BitVec 5 := block ++ fnum.extractLsb' 9 2

/-- `FHI_LATCH` as FREQ_HI stores it: `V[5:0]`, the block above the mantissa bits (R256). -/
def fhiByte (fhi block : BitVec 3) : BitVec 6 := block ++ fhi

/-- Twice the frequency multiple: selector 0 means one half (R127). -/
def mul2 (mul : BitVec 4) : Nat := if mul = 0 then 1 else 2 * mul.toNat

/-- The detuned mantissa `fd` (R127): `DT[1:0]` is the size, `DT[2] = 1` lowers. -/
def detuned (fnum : BitVec 11) (dt : BitVec 3) : Nat :=
  let dmag := (fnum.toNat * (dt.extractLsb' 0 2).toNat) >>> 9
  if dt.getLsbD 2 then fnum.toNat - dmag else fnum.toNat + dmag

/-- The algorithm that ALG_FB stores: three bits with four operators, `V[0]` with two (R257). -/
def storedAlg (ops : Config.OperatorCount) (alg : BitVec 3) : BitVec 3 :=
  match ops with
  | .two => alg &&& 1
  | .four => alg

end Sys2Proof.Machine
end

