-- ==== Sys2Proof/Machine/Phase.lean ====
section
/-!
DEFINITION. phase_accumulator_bank: the increment, the retune of the double buffer, the phase step (R120 to
R131).
-/

namespace Sys2Proof.Machine

/-- `recompute_inc`: frequency times multiple times `CPS`, shifted right by `21 - BLOCK`, low 20 bits
(R127). -/
def incOf (cps : BitVec 24) (fnum : BitVec 11) (block : BitVec 3) (mul : BitVec 4) (dt : BitVec 3) :
    BitVec 20 :=
  BitVec.ofNat 20 ((detuned fnum dt * mul2 mul * cps.toNat) >>> (21 - block.toNat))

/-- The cached increment of one operator, from the active frequency (R39, R127). -/
def recomputeInc (cps : BitVec 24) (fnum : BitVec 11) (block : BitVec 3) (o : Operator) : Operator :=
  { o with inc := incOf cps fnum block o.mul o.dt }

/-- `retune(c)` (R125). -/
def Channel.retune (cps : BitVec 24) (ch : Channel) : Channel :=
  let fnum := fnumOf ch.floLatch ch.fhiLatch
  let block := blockOf ch.fhiLatch
  { ch with
    fnum := fnum, block := block, kcode := keyCode block fnum, loLanded := false, hiLanded := false
    ops := ch.ops.map (recomputeInc cps fnum block) }

/-- The retune is triggered by whichever byte lands second (R125). -/
def Channel.retuneIfLanded (cps : BitVec 24) (ch : Channel) : Channel :=
  if ch.bothLanded then ch.retune cps else ch

/-- The table index of an accumulator, `PHASE[19:10]` (R122). -/
def Operator.phaseIndex (o : Operator) : Nat := o.phase.toNat >>> 10

/-- `step`: `PHASE <- (PHASE + INC + d) mod 2^20`, `d` the phase-LFO's delta (R121). -/
def Operator.phaseStep (d : Int) (o : Operator) : Operator :=
  { o with phase := BitVec.ofInt 20 (o.phase.toNat + o.inc.toNat + d) }

end Sys2Proof.Machine
end

