-- ==== Sys2Proof/Machine/ChannelCommands.lean ====
section
/-!
DEFINITION. KEY and the register-write commands of format C (R254 to R258). A channel the instance does not
have is left out by `State.updChan`; the entry still takes its busy duration.
-/

namespace Sys2Proof.Machine

/-- KEY: key-on or key-off of the channel in the value byte (R254). -/
def cmdKey (c : BitVec 3) (on : Bool) (s : State) : State :=
  (s.updChan c.toNat (fun ch => if on then ch.keyOn else ch.keyOff)).setBusyWrite

/-- KEY (R254). -/
def execKey (c : BitVec 3) (on : Bool) (s : State) : Host.Outcome State Fault Refusal :=
  .next (cmdKey c on s)

/-- FREQ_LO: latch, flag, then the retune if the high byte has landed (R255, R287 (c)). -/
def cmdFreqLo (c : BitVec 3) (lo : BitVec 8) (s : State) : State :=
  (s.updChan c.toNat (fun ch =>
    { ch with floLatch := lo, loLanded := true }.retuneIfLanded s.cps)).setBusyWrite

/-- FREQ_LO (R255). -/
def execFreqLo (c : BitVec 3) (lo : BitVec 8) (s : State) : Host.Outcome State Fault Refusal :=
  .next (cmdFreqLo c lo s)

/-- FREQ_HI: latch, flag, then the retune if the low byte has landed (R256, R287 (c)). -/
def cmdFreqHi (c : BitVec 3) (fhi block : BitVec 3) (s : State) : State :=
  (s.updChan c.toNat (fun ch =>
    { ch with fhiLatch := fhiByte fhi block, hiLanded := true }.retuneIfLanded s.cps)).setBusyWrite

/-- FREQ_HI (R256). -/
def execFreqHi (c : BitVec 3) (fhi block : BitVec 3) (s : State) :
    Host.Outcome State Fault Refusal :=
  .next (cmdFreqHi c fhi block s)

/-- ALG_FB: the feedback history is not cleared (R257). -/
def cmdAlgFb (c : BitVec 3) (alg fb : BitVec 3) (s : State) : State :=
  (s.updChan c.toNat (fun ch =>
    { ch with alg := storedAlg s.cfg.ops alg, fb := fb })).setBusyWrite

/-- ALG_FB (R257). -/
def execAlgFb (c : BitVec 3) (alg fb : BitVec 3) (s : State) : Host.Outcome State Fault Refusal :=
  .next (cmdAlgFb c alg fb s)

/-- PAN_LFO: all three fields are written (R258). -/
def cmdPanLfo (c : BitVec 3) (pan ams : BitVec 2) (pms : BitVec 3) (s : State) : State :=
  (s.updChan c.toNat (fun ch => { ch with pan := pan, ams := ams, pms := pms })).setBusyWrite

/-- PAN_LFO (R258). -/
def execPanLfo (c : BitVec 3) (pan ams : BitVec 2) (pms : BitVec 3) (s : State) :
    Host.Outcome State Fault Refusal :=
  .next (cmdPanLfo c pan ams pms s)

end Sys2Proof.Machine
end

