-- ==== Sys2Proof/Machine/GlobalCommands.lean ====
section
/-!
DEFINITION. The register-write commands of formats G and P, and UNMAPPED (R250 to R253, R267, R268).

Each command is a state function `cmd…`, which the scheduler runs at the SUBTICK that accepts the entry
(R214), and a meaning `exec…`, the same effect as an outcome. "Nothing that passes through the queue can be
refused" (R283), so every command gives a next state. A command leaves its busy duration in `BUSY_CNT`.
-/

namespace Sys2Proof.Machine

/-- STATUS_W: nothing but the busy duration (R250). -/
def cmdStatusW (s : State) : State := s.setBusyWrite

/-- STATUS_W (R250). -/
def execStatusW (s : State) : Host.Outcome State Fault Refusal := .next (cmdStatusW s)

/-- LFO_AM_FREQ: the counter is not touched (R251). -/
def cmdLfoAmFreq (f : BitVec 8) (s : State) : State := { s with lfoAmFreq := f }.setBusyWrite

/-- LFO_AM_FREQ (R251). -/
def execLfoAmFreq (f : BitVec 8) (s : State) : Host.Outcome State Fault Refusal :=
  .next (cmdLfoAmFreq f s)

/-- LFO_PM_FREQ: the counter is not touched (R252). -/
def cmdLfoPmFreq (f : BitVec 8) (s : State) : State := { s with lfoPmFreq := f }.setBusyWrite

/-- LFO_PM_FREQ (R252). -/
def execLfoPmFreq (f : BitVec 8) (s : State) : Host.Outcome State Fault Refusal :=
  .next (cmdLfoPmFreq f s)

/-- LFO_WAVE: both selectors are written (R253). -/
def cmdLfoWave (am pm : BitVec 2) (s : State) : State :=
  { s with lfoAmWave := am, lfoPmWave := pm }.setBusyWrite

/-- LFO_WAVE (R253). -/
def execLfoWave (am pm : BitVec 2) (s : State) : Host.Outcome State Fault Refusal :=
  .next (cmdLfoWave am pm s)

/-- WAIT: the busy duration is the count itself (R267). -/
def cmdWait (n : BitVec 24) (s : State) : State := s.setBusy n

/-- WAIT (R267). -/
def execWait (n : BitVec 24) (s : State) : Host.Outcome State Fault Refusal := .next (cmdWait n s)

/-- UNMAPPED: "silently ignored", but for the busy duration (R268). -/
def cmdUnmapped (s : State) : State := s.setBusyWrite

/-- UNMAPPED (R268). -/
def execUnmapped (s : State) : Host.Outcome State Fault Refusal := .next (cmdUnmapped s)

end Sys2Proof.Machine
end

