-- ==== Sys2Proof/Machine/OperatorCommands.lean ====
section
/-!
DEFINITION. The register-write commands of format O (R259 to R266). An operator the instance does not have is
left out by `State.updOper`; the entry still takes its busy duration.
-/

namespace Sys2Proof.Machine

/-- MUL_DT: the one operator command that reaches beyond the register file. The increment is recomputed from
the channel's ACTIVE frequency, so a half-landed frequency does not leak into it (R259). -/
def cmdMulDt (c : BitVec 3) (k : BitVec 2) (mul : BitVec 4) (dt : BitVec 3) (s : State) : State :=
  (s.updChan c.toNat (fun ch =>
    if k.toNat < s.cfg.ops.count then
      ch.updOper k.toNat (fun o =>
        recomputeInc s.cps ch.fnum ch.block { o with mul := mul, dt := dt })
    else ch)).setBusyWrite

/-- MUL_DT (R259). -/
def execMulDt (c : BitVec 3) (k : BitVec 2) (mul : BitVec 4) (dt : BitVec 3) (s : State) :
    Host.Outcome State Fault Refusal :=
  .next (cmdMulDt c k mul dt s)

/-- TL: the total level (R260). -/
def cmdTl (c : BitVec 3) (k : BitVec 2) (level : BitVec 7) (s : State) : State :=
  (s.updOper c.toNat k.toNat (fun o => { o with tl := level })).setBusyWrite

/-- TL (R260). -/
def execTl (c : BitVec 3) (k : BitVec 2) (level : BitVec 7) (s : State) :
    Host.Outcome State Fault Refusal :=
  .next (cmdTl c k level s)

/-- AR: the attack rate (R261). -/
def cmdAr (c : BitVec 3) (k : BitVec 2) (rate : BitVec 6) (s : State) : State :=
  (s.updOper c.toNat k.toNat (fun o => { o with ar := rate })).setBusyWrite

/-- AR (R261). -/
def execAr (c : BitVec 3) (k : BitVec 2) (rate : BitVec 6) (s : State) :
    Host.Outcome State Fault Refusal :=
  .next (cmdAr c k rate s)

/-- DR: the decay rate (R262). -/
def cmdDr (c : BitVec 3) (k : BitVec 2) (rate : BitVec 6) (s : State) : State :=
  (s.updOper c.toNat k.toNat (fun o => { o with dr := rate })).setBusyWrite

/-- DR (R262). -/
def execDr (c : BitVec 3) (k : BitVec 2) (rate : BitVec 6) (s : State) :
    Host.Outcome State Fault Refusal :=
  .next (cmdDr c k rate s)

/-- SR: the sustain rate (R263). -/
def cmdSr (c : BitVec 3) (k : BitVec 2) (rate : BitVec 6) (s : State) : State :=
  (s.updOper c.toNat k.toNat (fun o => { o with sr := rate })).setBusyWrite

/-- SR (R263). -/
def execSr (c : BitVec 3) (k : BitVec 2) (rate : BitVec 6) (s : State) :
    Host.Outcome State Fault Refusal :=
  .next (cmdSr c k rate s)

/-- RR: the release rate (R264). -/
def cmdRr (c : BitVec 3) (k : BitVec 2) (rate : BitVec 6) (s : State) : State :=
  (s.updOper c.toNat k.toNat (fun o => { o with rr := rate })).setBusyWrite

/-- RR (R264). -/
def execRr (c : BitVec 3) (k : BitVec 2) (rate : BitVec 6) (s : State) :
    Host.Outcome State Fault Refusal :=
  .next (cmdRr c k rate s)

/-- SL_KS: the sustain level and the key-scale selector (R265). -/
def cmdSlKs (c : BitVec 3) (k : BitVec 2) (sl : BitVec 4) (ks : BitVec 2) (s : State) : State :=
  (s.updOper c.toNat k.toNat (fun o => { o with sl := sl, ks := ks })).setBusyWrite

/-- SL_KS (R265). -/
def execSlKs (c : BitVec 3) (k : BitVec 2) (sl : BitVec 4) (ks : BitVec 2) (s : State) :
    Host.Outcome State Fault Refusal :=
  .next (cmdSlKs c k sl ks s)

/-- EGT_SSG: the SSG-EG mode and the two envelope-type flags (R266). -/
def cmdEgtSsg (c : BitVec 3) (k : BitVec 2) (ssg : BitVec 4) (hold ignk : Bool) (s : State) : State :=
  (s.updOper c.toNat k.toNat (fun o => { o with ssg := ssg, egtHold := hold, egtIgnk := ignk })).setBusyWrite

/-- EGT_SSG (R266). -/
def execEgtSsg (c : BitVec 3) (k : BitVec 2) (ssg : BitVec 4) (hold ignk : Bool) (s : State) :
    Host.Outcome State Fault Refusal :=
  .next (cmdEgtSsg c k ssg hold ignk s)

end Sys2Proof.Machine
end

