-- ==== Sys2Proof/Machine/Scheduler.lean ====
section
/-!
DEFINITION. write_scheduler_queue: one chip clock of the scheduler (R210 to R217).
-/

namespace Sys2Proof.Machine

/-- `apply(A, V)` and the busy duration it returns (R214): the effect of a decoded entry. `decodeEntry`
gives queue commands only, so the arms of the host operations are never reached (R83, R213). -/
def applyCommand (i : Instr) (s : State) : State :=
  match i with
  | .statusW => cmdStatusW s
  | .lfoAmFreq f => cmdLfoAmFreq f s
  | .lfoPmFreq f => cmdLfoPmFreq f s
  | .lfoWave am pm => cmdLfoWave am pm s
  | .key c on => cmdKey c on s
  | .freqLo c lo => cmdFreqLo c lo s
  | .freqHi c fhi block => cmdFreqHi c fhi block s
  | .algFb c alg fb => cmdAlgFb c alg fb s
  | .panLfo c pan ams pms => cmdPanLfo c pan ams pms s
  | .mulDt c k mul dt => cmdMulDt c k mul dt s
  | .tl c k level => cmdTl c k level s
  | .ar c k rate => cmdAr c k rate s
  | .dr c k rate => cmdDr c k rate s
  | .sr c k rate => cmdSr c k rate s
  | .rr c k rate => cmdRr c k rate s
  | .slKs c k sl ks => cmdSlKs c k sl ks s
  | .egtSsg c k ssg hold ignk => cmdEgtSsg c k ssg hold ignk s
  | .wait n => cmdWait n s
  | .unmapped => cmdUnmapped s
  | .reset _ _ => s
  | .write _ _ => s
  | .read _ => s
  | .generate _ => s
  | .setVolume _ => s
  | .tick => s

/-- The decrement at the start of a SUBTICK: `if BUSY_CNT > 0 then BUSY_CNT <- BUSY_CNT - 1` (R214). -/
def State.countDown (s : State) : State :=
  { s with busyCnt := if s.busyCnt = 0 then 0 else s.busyCnt - 1 }

/-- The test after it: when the busy flag is clear, the head of the queue is removed and applied (R214). The
entry is decoded now, not when it was written (R83). -/
def State.acceptHead (s : State) : State :=
  if s.busyFlag then s
  else
    match s.queue with
    | [] => s
    | e :: rest => applyCommand (decodeEntry s.cfg e.word) { s with queue := rest }

/-- SUBTICK: one chip clock (R214). -/
def subtick (s : State) : State := s.countDown.acceptHead

/-- `n` chip clocks, one after another (R231, R243). -/
def subticks : Nat → State → State
  | 0, s => s
  | n + 1, s => subticks n (subtick s)

end Sys2Proof.Machine
end

