-- ==== Sys2Proof/Machine/Lfo.lean ====
section
/-!
DEFINITION. lfo_modulator: the two chip-wide counters, their waveforms, and what a channel makes of them (R170
to R179).
-/

namespace Sys2Proof.Machine

/-- The table index of a counter, its top 5 bits (R171). -/
def lfoIndex (cnt : BitVec 22) : BitVec 5 := cnt.extractLsb' 17 5

/-- `am_out`, from the counter as it stands (R172, R174). -/
def State.amOut (s : State) : Nat := amTab s.lfoAmWave (lfoIndex s.lfoAmCnt)

/-- `pm_out`, from the counter as it stands (R172, R175). -/
def State.pmOut (s : State) : Int := pmTab s.lfoPmWave (lfoIndex s.lfoPmCnt)

/-- `(cnt + (freq << 4)) mod 2^22` (R173). -/
def lfoAdvance (cnt : BitVec 22) (freq : BitVec 8) : BitVec 22 :=
  BitVec.ofNat 22 (cnt.toNat + freq.toNat <<< 4)

/-- `am_contrib(c)` in attenuation units (R177). -/
def amContrib (ams : BitVec 2) (amOut : Nat) : Nat :=
  if ams = 0 then 0 else amOut <<< (ams.toNat + 1)

/-- `pmDelta(c, k)` (R178). -/
def pmDelta (inc : BitVec 20) (pmOut : Int) (pms : BitVec 3) : Int :=
  asr (inc.toNat * pmOut * pms.toNat) 13

end Sys2Proof.Machine
end

