-- ==== Sys2Proof/Machine/LogLinear.lean ====
section
/-!
DEFINITION. log_linear_tables: attenuation to magnitude and back (R100 to R113).

An attenuation is a natural number in units of 1/256 octave; a log word is `2 * attenuation + sign` (R104).
Both are mathematical integers: the spec gives them no register.
-/

namespace Sys2Proof.Machine

/-- `LINMAG(a)`, the linear magnitude of an attenuation; 0 above `LOG_CEIL = 4095` (R102). The index of `EXPTAB`
is `a & 255` (R111). -/
def linMag (a : Nat) : Nat := if a ≤ 4095 then expTab (Fin.ofNat 256 a) >>> (a / 256) else 0

/-- `LINTAB[L]` for `L` in 0 to 8191, the second table: the magnitude of `L >> 1`, negative at odd indices
(R103). -/
def linTab (L : Fin 8192) : Int :=
  if L.val % 2 = 1 then -(linMag (L.val / 2) : Int) else linMag (L.val / 2)

/-- `logToLinear(L, shift)` (R105): the shift is applied to the magnitude, the sign afterwards. -/
def logToLinear (L shift : Nat) : Int :=
  let a := L >>> 1
  if 4095 < a then 0
  else
    let m := linMag a >>> shift
    if L % 2 = 1 then -(m : Int) else m

/-- Binary search for the least attenuation in `lo` to `hi` whose magnitude is at most `m` (R106: "the least
`a` is found by binary search"). -/
def searchAtt (m : Nat) : Nat → Nat → Nat → Nat
  | 0, lo, _ => lo
  | fuel + 1, lo, hi =>
    if lo < hi then
      let mid := (lo + hi) / 2
      if linMag mid ≤ m then searchAtt m fuel lo mid else searchAtt m fuel (mid + 1) hi
    else lo

/-- The least `a` in 0 to 4096 with `LINMAG(a) <= m` (R106); 13 halvings empty the interval. -/
def attOf (m : Nat) : Nat := searchAtt m 13 0 4096

/-- `linearToLog(value)` (R106). -/
def linearToLog (v : Int) : Nat := 2 * attOf v.natAbs + (if v < 0 then 1 else 0)

/-- The place in the quarter wave of a place in the period: the second quarter runs backward, and the second half
is the first again (R108). -/
def quarterIndex (p : BitVec 10) : Fin 256 :=
  if h : p.toNat % 512 < 256 then ⟨p.toNat % 512, h⟩ else ⟨511 - p.toNat % 512, by omega⟩

/-- `SINFULL(p)`: the quarter wave extended to a full period by symmetry (R108). -/
def sinFull (p : BitVec 10) : Int :=
  if 512 ≤ p.toNat then -(sini (quarterIndex p) : Int) else sini (quarterIndex p)

/-- `SINTAB[p]`, the log-sine table, from the listed attenuations: its sign bit is `p[9]` (R109). -/
def sinTab (p : BitVec 10) : Nat := 2 * sinAtt (quarterIndex p) + p.toNat / 512

end Sys2Proof.Machine
end

