-- ==== Sys2Proof/Machine/Mixer.lean ====
section
/-!
DEFINITION. operator_mixing_network: operator output, feedback, algorithms, the channel sample (R185 to R197).
-/

namespace Sys2Proof.Machine

/-- The attenuation sum of an operator, `am` the channel's amplitude-LFO contribution (R187). -/
def Operator.attSum (o : Operator) (am : Nat) : Nat :=
  o.egOut.toNat <<< 2 + o.tl.toNat <<< 5 + am

/-- `op_out(c, k, pidx)` (R186): exactly 0 while disabled. -/
def Operator.output (o : Operator) (am : Nat) (pidx : BitVec 10) : Int :=
  if o.enable then
    let w := sinTab pidx
    logToLinear (2 * (w / 2 + o.attSum am) + w % 2) 6
  else 0

/-- The row of the algorithm tables that `ALG` selects. A two-operator channel stores `V[0]` only, so its
two-row table is always in range (R193); the mask says so for every state. -/
def algIndex (ops : Config.OperatorCount) (alg : BitVec 3) : Nat :=
  match ops with
  | .two => alg.toNat % 2
  | .four => alg.toNat

/-- `MODS[ALG][k]`, the modulators of operator `k` (R192). -/
def modsOf (ops : Config.OperatorCount) (alg : BitVec 3) (k : Nat) : List Nat :=
  match ops with
  | .two => (mods2.getD (algIndex .two alg) []).getD k []
  | .four => (mods4.getD (algIndex .four alg) []).getD k []

/-- `CARRIERS[ALG]` (R192). -/
def carriersOf (ops : Config.OperatorCount) (alg : BitVec 3) : List Nat :=
  match ops with
  | .two => carriers2.getD (algIndex .two alg) []
  | .four => carriers4.getD (algIndex .four alg) []

/-- The sum of the outputs with the given indices (R191, R194). -/
def sumAt (outs : List Int) (idx : List Nat) : Int := (idx.map fun m => outs.getD m 0).sum

/-- `fb(c, k)` (R189): only operator 0 feeds back, and amount 0 is exactly no feedback. -/
def Channel.feedback (ch : Channel) (k : Nat) : Int :=
  if k = 0 ∧ ch.fb ≠ 0 then asr (ch.fbh1.toInt + ch.fbh2.toInt) (10 - ch.fb.toNat) else 0

/-- `pidx`: table index plus half the modulation plus feedback, 10 bits (R188). -/
def phaseIndexOf (o : Operator) (modsum fb : Int) : BitVec 10 :=
  BitVec.ofInt 10 (o.phaseIndex + asr modsum 1 + fb)

/-- The operators from index `outs.length` on, each from the outputs of those before it in this same sample
(R185, R195). -/
def Channel.evalFrom (ch : Channel) (ops : Config.OperatorCount) (am : Nat) :
    List Operator → List Int → List Int
  | [], outs => outs
  | o :: rest, outs =>
    let k := outs.length
    let modsum := sumAt outs (modsOf ops ch.alg k)
    let out := o.output am (phaseIndexOf o modsum (ch.feedback k))
    ch.evalFrom ops am rest (outs ++ [out])

/-- `out[0]` to `out[OPS-1]` of one channel at one SAMPLETICK (R185, R195). -/
def Channel.outputs (ch : Channel) (ops : Config.OperatorCount) (amOut : Nat) : List Int :=
  ch.evalFrom ops (amContrib ch.ams amOut) ch.ops []

/-- `channel_eval(c)`: the channel sample, unclamped, and the feedback history (R190, R194, R195). -/
def Channel.eval (ch : Channel) (ops : Config.OperatorCount) (amOut : Nat) : Channel :=
  let outs := ch.outputs ops amOut
  { ch with
    chout := BitVec.ofInt 16 (sumAt outs (carriersOf ops ch.alg))
    fbh2 := ch.fbh1
    fbh1 := BitVec.ofInt 14 (outs.getD 0 0) }

end Sys2Proof.Machine
end

