-- ==== Sys2Proof/Machine/Synth.lean ====
section
/-!
DEFINITION. SynthesisTick: one SAMPLETICK and the output composition (R230, R236 to R241).
-/

namespace Sys2Proof.Machine

/-- The part of a SAMPLETICK that belongs to one channel (R236): output from the old state, then the phase
steps, then the envelope steps. -/
def Channel.sampleTick (ops : Config.OperatorCount) (amOut : Nat) (pmOut : Int) (ch : Channel) :
    Channel :=
  let evaluated := ch.eval ops amOut
  { evaluated with
    ops := evaluated.ops.map fun o =>
      (o.phaseStep (pmDelta o.inc pmOut ch.pms)).egStep ch.kcode }

/-- `volume(m)` (R239). -/
def volumeStage (vol : BitVec 12) (m : Int) : Int := logToLinear (linearToLog m + 2 * vol.toNat) 0

/-- The sum of `CHOUT` over the channels whose pan bit `side` is 1 (R238). -/
def mixOf (side : Nat) (chs : List Channel) : Int :=
  (chs.map fun ch => if ch.pan.getLsbD side then ch.chout.toInt else 0).sum

/-- SAMPLETICK (R236). -/
def sampleTick (s : State) : State :=
  let chs := s.ch.map (Channel.sampleTick s.cfg.ops s.amOut s.pmOut)
  { s with
    ch := chs
    lfoAmCnt := lfoAdvance s.lfoAmCnt s.lfoAmFreq
    lfoPmCnt := lfoAdvance s.lfoPmCnt s.lfoPmFreq
    outL := BitVec.ofInt 32 (volumeStage s.vol (mixOf 1 chs))
    outR := BitVec.ofInt 32 (volumeStage s.vol (mixOf 0 chs)) }

end Sys2Proof.Machine
end

