-- ==== Sys2Proof/Machine/HostOps.lean ====
section
/-!
DEFINITION. The six host operations (R3, R87): `reset`, `write`, `read`, `generate`, `setVolume`, `tick`. Each
is one atomic transition (R5, R233).
-/

namespace Sys2Proof.Machine

/-! ## reset -/

/-- The preconditions of `reset(clk, rate)` (R302). -/
abbrev resetLegal (clk rate : Nat) : Prop :=
  1 ≤ rate ∧ rate < 4294967296 ∧ clk < 4294967296 ∧ clk * 4096 / rate < 16777216

/-- RESET: every state element is written, and nothing before it matters (R301, R303). -/
def execReset (clk rate : Nat) (s : State) : Host.Outcome State Fault Refusal :=
  if resetLegal clk rate then .next (State.afterReset s.cfg s.script clk rate)
  else .refused .resetArguments

/-! ## write and read -/

/-- WRITE: one append, no decoding (R212). -/
def execWrite (addr : Key) (value : Byte) (s : State) : Host.Outcome State Fault Refusal :=
  whenReady s fun s => .next ((s.enqueue ⟨addr, value⟩).withReply .done)

/-- READ: immediate, and it changes nothing in the block (R218). -/
def execRead (addr : Key) (s : State) : Host.Outcome State Fault Refusal :=
  whenReady s fun s => .next (s.withReply (.byte (s.readKey addr)))

/-! ## generate and tick -/

/-- How many SUBTICKs the next sample holds: the turns of the `while` loop of R231. -/
def State.subtickCount (s : State) : Nat := (s.clkAcc.toNat + s.clkNum.toNat) / s.clkDen.toNat

/-- What the `while` loop of R231 leaves in `CLKACC`. -/
def State.dividerRest (s : State) : BitVec 32 :=
  BitVec.ofNat 32 ((s.clkAcc.toNat + s.clkNum.toNat) % s.clkDen.toNat)

/-- `clock_divider()`: the SUBTICKs of one sample (R231). No SUBTICK reads or writes `CLKACC`. -/
def clockDivider (s : State) : State :=
  subticks s.subtickCount { s with clkAcc := s.dividerRest }

/-- One sample: its SUBTICKs, then its SAMPLETICK (R234, R243). -/
def oneSample (s : State) : State := sampleTick (clockDivider s)

/-- `n` samples: the state after them and the pairs they gave, in time order (R234). -/
def generateSamples : Nat → State → State × List (BitVec 32 × BitVec 32)
  | 0, s => (s, [])
  | n + 1, s =>
    let s₁ := oneSample s
    let r := generateSamples n s₁
    (r.1, (s₁.outL, s₁.outR) :: r.2)

/-- GENERATE (R234): a count of 0 is legal and does nothing. -/
def execGenerate (count : Nat) (s : State) : Host.Outcome State Fault Refusal :=
  whenReady s fun s =>
    let r := generateSamples count s
    .next (r.1.withReply (.samples r.2))

/-- TICK: `generate(1)` (R237). -/
def execTick (s : State) : Host.Outcome State Fault Refusal :=
  whenReady s fun s =>
    let r := generateSamples 1 s
    .next (r.1.withReply (.samples r.2))

/-! ## setVolume -/

/-- SETVOLUME: immediate, not queued (R69, R240). -/
def execSetVolume (level : Nat) (s : State) : Host.Outcome State Fault Refusal :=
  whenReady s fun s =>
    if level ≤ 4095 then .next ({ s with vol := BitVec.ofNat 12 level }.withReply .done)
    else .refused .volumeLevel

end Sys2Proof.Machine
end

