-- ==== Sys2Proof/Machine/Dispatch.lean ====
section
/-! DEFINITION. The meaning of every instruction, one arm per constructor. -/

namespace Sys2Proof.Machine

/-- The meaning of an instruction. For a queue command it is the acceptance of an entry (R214); for a host
operation, the whole operation (R5). -/
def exec (i : Instr) (s : State) : Host.Outcome State Fault Refusal :=
  match i with
  | .statusW => Sys2Proof.Machine.execStatusW s
  | .lfoAmFreq f => Sys2Proof.Machine.execLfoAmFreq f s
  | .lfoPmFreq f => Sys2Proof.Machine.execLfoPmFreq f s
  | .lfoWave am pm => Sys2Proof.Machine.execLfoWave am pm s
  | .key c on => Sys2Proof.Machine.execKey c on s
  | .freqLo c lo => Sys2Proof.Machine.execFreqLo c lo s
  | .freqHi c fhi block => Sys2Proof.Machine.execFreqHi c fhi block s
  | .algFb c alg fb => Sys2Proof.Machine.execAlgFb c alg fb s
  | .panLfo c pan ams pms => Sys2Proof.Machine.execPanLfo c pan ams pms s
  | .mulDt c k mul dt => Sys2Proof.Machine.execMulDt c k mul dt s
  | .tl c k level => Sys2Proof.Machine.execTl c k level s
  | .ar c k rate => Sys2Proof.Machine.execAr c k rate s
  | .dr c k rate => Sys2Proof.Machine.execDr c k rate s
  | .sr c k rate => Sys2Proof.Machine.execSr c k rate s
  | .rr c k rate => Sys2Proof.Machine.execRr c k rate s
  | .slKs c k sl ks => Sys2Proof.Machine.execSlKs c k sl ks s
  | .egtSsg c k ssg hold ignk => Sys2Proof.Machine.execEgtSsg c k ssg hold ignk s
  | .wait n => Sys2Proof.Machine.execWait n s
  | .unmapped => Sys2Proof.Machine.execUnmapped s
  | .reset clk rate => Sys2Proof.Machine.execReset clk rate s
  | .write addr value => Sys2Proof.Machine.execWrite addr value s
  | .read addr => Sys2Proof.Machine.execRead addr s
  | .generate count => Sys2Proof.Machine.execGenerate count s
  | .setVolume level => Sys2Proof.Machine.execSetVolume level s
  | .tick => Sys2Proof.Machine.execTick s

end Sys2Proof.Machine
end

