-- ==== Sys2Proof/Machine/Step.lean ====
section
/-!
DEFINITION. One step of the machine: the next operation of the host's script, decoded and run.

The block fetches no instructions (R24). What drives it is the host, the one agent (R5), and a step is one
host operation, because each is one atomic transition (R233). A queue command runs inside a `generate` or
`tick`, at the SUBTICK that accepts it (R214). When the host has nothing to do the block holds all its state
(R296).
-/

namespace Sys2Proof.Machine

/-- One step. -/
def step (s : State) : Host.Outcome State Fault Refusal :=
  match s.script with
  | [] => .next s
  | h :: rest =>
    match decodeCall h with
    | .error why => .refused (.badCall why)
    | .ok i => exec i { s with script := rest }

/-- The call that runs one sample period, TICK. -/
def tickCall : HostCall := ⟨5, 0, 0⟩

/-- The instruction of the given word stored where `step` takes its next one from (assumption 3). A host
operation goes to the front of the script. An entry word becomes the whole queue of an idle scheduler, and a
TICK goes to the front of the script, with the clock latches at one chip clock per sample: the next step is
then one sample period that accepts exactly this entry. -/
def State.withFetchWord (s : State) (nbits w : Nat) : State :=
  if nbits ≤ 8 then { s with script := tableCall w :: s.script }
  else
    let e := BitVec.ofNat 40 w
    { s with
      ready := true, queue := [⟨e.extractLsb' 8 32, e.extractLsb' 0 8⟩], busyCnt := 0
      clkNum := 1, clkDen := 1, clkAcc := 0, script := tickCall :: s.script }

end Sys2Proof.Machine
end

