-- ==== Sys2Proof/Safety.lean ====
section
/-!
DEFINITION. The words the statements use: frames (what an operation leaves alone), the invariants of R27, R34 to
R36, R45 and R241, the agreement of two states, and transcriptions of the spec's own formulas
and tables that the statements compare the machine with.

Nothing here is used by the machine.
-/

namespace Sys2Proof.Machine

/-! ## Frames -/

/-- A channel record without its operators. -/
def Channel.core (ch : Channel) : Channel := { ch with ops := [] }

/-- Nothing outside the channel records changed but, perhaps, the busy counter. -/
def SameGlobals (s t : State) : Prop := t = { s with ch := t.ch, busyCnt := t.busyCnt }

/-- Channel `c` became `f` of what it was; every other channel, and everything outside the channel records
but the busy counter, is as before. -/
def OnlyChannel (s t : State) (c : Nat) (f : Channel → Channel) : Prop :=
  SameGlobals s t ∧ ∀ c', t.chan? c' = if c' = c then (s.chan? c).map f else s.chan? c'

/-- Operator `k` of channel `c` became `f` of what it was; every other operator, every channel's own fields
and everything outside the channel records but the busy counter are as before. -/
def OnlyOperator (s t : State) (c k : Nat) (f : Operator → Operator) : Prop :=
  SameGlobals s t ∧ (∀ c', (t.chan? c').map Channel.core = (s.chan? c').map Channel.core) ∧
    ∀ c' k', t.oper? c' k' = if c' = c ∧ k' = k then (s.oper? c k).map f else s.oper? c' k'

/-- The instruction gives a next state on every state, in which the busy counter is `BUSY_WRITE` and operator
`k` of channel `c`, if the instance has it, is `f` of what it was; nothing else changed. -/
def WritesOperator (i : Instr) (c : BitVec 3) (k : BitVec 2) (f : Operator → Operator) : Prop :=
  ∀ s : State, ∃ t, exec i s = .next t ∧ t.busyCnt = s.cfg.busyWrite ∧
    OnlyOperator s t c.toNat k.toNat (fun o => if hasOperator s.cfg c k then f o else o)

/-- The record has as many channels and operators as the instance (R20). -/
def State.Shaped (s : State) : Prop :=
  s.ch.length = s.cfg.nch ∧ ∀ ch ∈ s.ch, ch.ops.length = s.cfg.ops.count

/-- The register-file fields of a channel and of its operators (R23), everything else blanked. -/
def Channel.registers (ch : Channel) : Channel :=
  { Channel.initial .two with
    floLatch := ch.floLatch, fhiLatch := ch.fhiLatch, alg := ch.alg, fb := ch.fb, pan := ch.pan
    ams := ch.ams, pms := ch.pms
    ops := ch.ops.map fun o =>
      { Operator.initial with
        mul := o.mul, dt := o.dt, tl := o.tl, ar := o.ar, dr := o.dr, sr := o.sr, rr := o.rr
        sl := o.sl, ks := o.ks, ssg := o.ssg, egtHold := o.egtHold, egtIgnk := o.egtIgnk } }

/-! ## Invariants. Before the first `reset` the spec gives no element but READY a value (R51), so each
invariant speaks of ready states. -/

/-- R27 and R26: the divider's remainder is below the divisor, the divisor is not 0, and `CPS` is the
truncated ratio. -/
def State.ClockInv (s : State) : Prop :=
  s.ready = true → s.clkDen.toNat ≠ 0 ∧ s.clkAcc.toNat < s.clkDen.toNat ∧
    s.cps.toNat = s.clkNum.toNat * 4096 / s.clkDen.toNat

/-- The channel invariants of R36, with the record layout of R20. -/
def State.ChannelInv (s : State) : Prop :=
  s.ready = true → s.Shaped ∧ ∀ ch ∈ s.ch,
    ¬ (ch.loLanded = true ∧ ch.hiLanded = true) ∧
    ch.kcode.toNat = ch.block.toNat * 4 + ch.fnum.toNat / 512 ∧
    (s.cfg.ops = .two → ch.alg.toNat < 2)

/-- The envelope invariants of R45, and the range of `EG_ATKPOS` (R43): it is a position of the curve. -/
def Operator.EnvelopeOk (o : Operator) : Prop :=
  (o.egMode = .off ↔ o.enable = false) ∧ (o.egMode = .off → o.egLevel = 1023) ∧
    ∃ p : Fin 41, o.egAtkPos.toNat = p.val ∧ (o.egMode = .attack → o.egLevel.toNat = attackCurve p)

/-- R45: the operators of every channel, and no operator beyond `OPS`. -/
def State.EnvelopeInv (s : State) : Prop :=
  s.ready = true → ∀ ch ∈ s.ch, ch.ops.length = s.cfg.ops.count ∧ ∀ o ∈ ch.ops, o.EnvelopeOk

/-- A signed quantity of magnitude at most `b`. -/
def Within (b v : Int) : Prop := -b ≤ v ∧ v ≤ b

/-- The ranges of R34, R35 and R241, for a legal instance. -/
def State.RangeInv (s : State) : Prop :=
  s.cfg.Legal ∧ (s.ready = true → s.ch.length = s.cfg.nch ∧
    (∀ ch ∈ s.ch, Within 4096 ch.fbh1.toInt ∧ Within 4096 ch.fbh2.toInt ∧
      Within 16384 ch.chout.toInt) ∧
    Within 131072 s.outL.toInt ∧ Within 131072 s.outR.toInt)

/-- `INC` as R127 computes it, on natural numbers. -/
def ruleInc (cps fnum block mul dt : Nat) : Nat :=
  let dmag := fnum * (dt % 4) / 512
  let fd := if dt / 4 = 1 then fnum - dmag else fnum + dmag
  let m2 := if mul = 0 then 1 else 2 * mul
  fd * m2 * cps / 2 ^ (21 - block) % 1048576

/-- The cached increment of every operator is that of the ACTIVE frequency and its own multiple and detune
(R32, R39, R127). -/
def State.IncrementInv (s : State) : Prop :=
  s.ready = true → ∀ ch ∈ s.ch, ∀ o ∈ ch.ops,
    o.inc.toNat = ruleInc s.cps.toNat ch.fnum.toNat ch.block.toNat o.mul.toNat o.dt.toNat

/-! ## Two instances that differ elsewhere -/

/-- The two states agree on everything but the other channels and the output pair. -/
def AgreeOnChannel (c : Nat) (s s' : State) : Prop :=
  s' = { s with ch := s'.ch, outL := s'.outL, outR := s'.outR } ∧ s.chan? c = s'.chan? c

/-! ## Transcriptions from the spec -/

/-- The command of the entry with address `a` and value `v`, read off R81 to R84 by address ranges and by
division: no mask and no bit slice. -/
def ruleCommand (p : Config.Params) (a v : Nat) : Instr :=
  if 0x80000000 ≤ a then .wait (BitVec.ofNat 24 (a % 65536 * 256 + v))
  else if a < 16 then
    (match a with
      | 0 => .statusW
      | 1 => .lfoAmFreq (BitVec.ofNat 8 v)
      | 2 => .lfoPmFreq (BitVec.ofNat 8 v)
      | 3 => .lfoWave (BitVec.ofNat 2 (v % 4)) (BitVec.ofNat 2 (v / 16 % 4))
      | 4 => .key (BitVec.ofNat 3 (v % 8)) (decide (v / 128 % 2 = 1))
      | _ => .unmapped)
  else if 0x100 ≤ a ∧ a ≤ 0x17F then
    let c := a / 16 % 8
    let x := BitVec.ofNat 3 c
    if p.nch ≤ c then .unmapped
    else
      (match a % 16 with
        | 0 => .freqLo x (BitVec.ofNat 8 v)
        | 1 => .freqHi x (BitVec.ofNat 3 (v % 8)) (BitVec.ofNat 3 (v / 8 % 8))
        | 2 => .algFb x (BitVec.ofNat 3 (v % 8)) (BitVec.ofNat 3 (v / 8 % 8))
        | 3 =>
          .panLfo x (BitVec.ofNat 2 (v % 4)) (BitVec.ofNat 2 (v / 4 % 4)) (BitVec.ofNat 3 (v / 16 % 8))
        | _ => .unmapped)
  else if 0x200 ≤ a ∧ a ≤ 0x3FF then
    let c := a / 64 % 8
    let k := a / 16 % 4
    let x := BitVec.ofNat 3 c
    let y := BitVec.ofNat 2 k
    if p.nch ≤ c ∨ p.ops.count ≤ k then .unmapped
    else
      (match a % 16 with
        | 0 => .mulDt x y (BitVec.ofNat 4 (v % 16)) (BitVec.ofNat 3 (v / 16 % 8))
        | 1 => .tl x y (BitVec.ofNat 7 (v % 128))
        | 2 => .ar x y (BitVec.ofNat 6 (v % 64))
        | 3 => .dr x y (BitVec.ofNat 6 (v % 64))
        | 4 => .sr x y (BitVec.ofNat 6 (v % 64))
        | 5 => .rr x y (BitVec.ofNat 6 (v % 64))
        | 6 => .slKs x y (BitVec.ofNat 4 (v % 16)) (BitVec.ofNat 2 (v / 16 % 4))
        | 7 =>
          .egtSsg x y (BitVec.ofNat 4 (v % 16)) (decide (v / 16 % 2 = 1)) (decide (v / 32 % 2 = 1))
        | _ => .unmapped)
  else .unmapped

/-- The unmapped keys with bit 31 clear, as R86 lists them. -/
def unmappedKey (p : Config.Params) (a : Key) : Bool :=
  let n := a.toNat
  decide (n < 0x80000000) &&
    (decide (0x005 ≤ n ∧ n ≤ 0x0FF) ||
      decide (0x100 ≤ n ∧ n ≤ 0x17F ∧ (4 ≤ n % 16 ∨ p.nch ≤ n / 16 % 8)) ||
      decide (0x180 ≤ n ∧ n ≤ 0x1FF) ||
      decide (0x200 ≤ n ∧ n ≤ 0x3FF ∧ (8 ≤ n % 16 ∨ p.nch ≤ n / 64 % 8 ∨ p.ops.count ≤ n / 16 % 4)) ||
      decide (0x400 ≤ n))

/-- The value bits a command of key `a` (bit 31 clear) reads: all but the reserved ones of R85. -/
def usedValueBits (p : Config.Params) (a : Key) : Byte :=
  let n := a.toNat
  if unmappedKey p a then 0x00
  else if n < 0x100 then
    (match n with
      | 1 => 0xFF
      | 2 => 0xFF
      | 3 => 0x33
      | 4 => 0x87
      | _ => 0x00)
  else if n < 0x200 then
    (match n % 16 with
      | 0 => 0xFF
      | 1 => 0x3F
      | 2 => if p.ops = .two then 0x39 else 0x3F
      | _ => 0x7F)
  else
    (match n % 16 with
      | 0 => 0x7F
      | 1 => 0x7F
      | _ => 0x3F)

/-- The `while` loop of R231 as written, `acc` the unbounded intermediate `CLKACC`. -/
def dividerLoop : Nat → Nat → State → State
  | 0, acc, s => { s with clkAcc := BitVec.ofNat 32 acc }
  | fuel + 1, acc, s =>
    if s.clkDen.toNat ≤ acc then dividerLoop fuel (acc - s.clkDen.toNat) (subtick s)
    else { s with clkAcc := BitVec.ofNat 32 acc }

/-- What `retune` makes of a channel whose latches hold `flo` and `fhi` (R125 to R127). -/
def ruleRetune (cps : BitVec 24) (flo : BitVec 8) (fhi : BitVec 6) (ch : Channel) : Channel :=
  let fnum := fhi.toNat % 8 * 256 + flo.toNat
  let block := fhi.toNat / 8
  { ch with
    floLatch := flo, fhiLatch := fhi, loLanded := false, hiLanded := false
    fnum := BitVec.ofNat 11 fnum, block := BitVec.ofNat 3 block
    kcode := BitVec.ofNat 5 (block * 4 + fnum / 512)
    ops := ch.ops.map fun o =>
      { o with inc := BitVec.ofNat 20 (ruleInc cps.toNat fnum block o.mul.toNat o.dt.toNat) } }

/-- The edges of the envelope that a SAMPLETICK may take, without those that stay (R141). -/
def sampleEdge (o : Operator) (m : EgMode) : Prop :=
  match o.egMode, m with
  | .attack, .decay => True
  | .decay, .sustainHold => o.egtHold = true
  | .decay, .sustain => o.egtHold = false
  | .sustain, .off => True
  | .release, .off => True
  | _, _ => False

/-- The effective rate of R149. -/
def ruleRate (o : Operator) (rate : Nat) (kcode : BitVec 5) : Fin 64 :=
  ⟨min (rate + kcode.toNat / 2 ^ (5 - o.ks.toNat)) 63, by omega⟩

/-- The whole level steps of one `eg_step`, `rate` the mode's rate field (R149, R150). -/
def ruleSteps (o : Operator) (rate : Nat) (kcode : BitVec 5) : Nat :=
  (o.egAcc.toNat + rateInc (ruleRate o rate kcode)) / 65536

/-- The fraction that stays in `EG_ACC` after it (R150). -/
def ruleFraction (o : Operator) (rate : Nat) (kcode : BitVec 5) : BitVec 16 :=
  BitVec.ofNat 16 (o.egAcc.toNat + rateInc (ruleRate o rate kcode))

end Sys2Proof.Machine
end

