-- ==== Sys2Proof/Certificates/Slice0/Obligations.lean ====
section
/-!
DEFINITION. The statements about the model, one Prop each. A docstring names the rules of spec/ a statement rests
on; a part that is the model's own choice is said to be one, with its log entry.
-/

open Sys2Proof Sys2Proof.Machine

/-! ## Encoding -/

/-- R83, R84, R87, R88: every well-formed instruction, written out and read back, is itself, for every instance
that uses the reference map. How UNMAPPED is written is the model's choice (log entry 10). -/
def Obligations.DecodeEncodeRoundTrip : Prop :=
  ∀ (p : Config.Params) (i : Instr), p.map = Config.referenceMap → i.wellFormed p = true →
    decode p (encode i) = .ok i

/-- R81 to R84: every one of the 2^40 entry words decodes to the command that its address range, its indices and
its value fields name. -/
def Obligations.DecodeFollowsAddressRanges : Prop :=
  ∀ (p : Config.Params) (a : Key) (v : Byte), p.map = Config.referenceMap →
    decodeEntry p (a ++ v) = ruleCommand p a.toNat v.toNat

/-- R90: the worked encodings, as host calls and as entry words, and what they decode to. -/
def Obligations.WrittenOutWordsDecode : Prop :=
  encode (.freqLo 0 0xE8) = .entry 0x00000100E8 ∧ assemble (.freqLo 0 0xE8) = ⟨1, 0x100, 0xE8⟩ ∧
  encode (.freqHi 0 3 4) = .entry 0x0000010123 ∧ assemble (.freqHi 0 3 4) = ⟨1, 0x101, 0x23⟩ ∧
  encode (.tl 0 1 0) = .entry 0x0000021100 ∧ assemble (.tl 0 1 0) = ⟨1, 0x211, 0x00⟩ ∧
  encode (.ar 2 3 63) = .entry 0x000002B23F ∧ assemble (.ar 2 3 63) = ⟨1, 0x2B2, 0x3F⟩ ∧
  (keyOnMacro 0).map encode = [.entry 0x0000000480] ∧
  (keyOnMacro 0).map assemble = [⟨1, 0x004, 0x80⟩] ∧
  encode (.wait 1000) = .entry 0x80000003E8 ∧ assemble (.wait 1000) = ⟨1, 0x80000003, 0xE8⟩ ∧
  decodeEntry Config.reference 0x00000100E8 = .freqLo 0 0xE8 ∧
  decodeEntry Config.reference 0x0000010123 = .freqHi 0 3 4 ∧
  decodeEntry Config.reference 0x0000021100 = .tl 0 1 0 ∧
  decodeEntry { Config.reference with ops := .four } 0x000002B23F = .ar 2 3 63 ∧
  decodeEntry Config.reference 0x0000000480 = .key 0 true ∧
  decodeEntry Config.reference 0x80000003E8 = .wait 1000

/-- R86: which addresses with bit 31 clear are unmapped, that an entry with such an address changes nothing but the
busy counter, and that every address with bit 31 set is a WAIT, all in the reference map; and that no entry traps,
whatever map the instance has. -/
def Obligations.UnmappedKeysAreSilentlyIgnored : Prop :=
  (∀ (p : Config.Params) (a : Key) (v : Byte), p.map = Config.referenceMap →
    (decodeEntry p (a ++ v) = .unmapped ↔ unmappedKey p a = true)) ∧
  (∀ (p : Config.Params) (a : Key) (v : Byte), p.map = Config.referenceMap → 0x80000000 ≤ a.toNat →
    ∃ n, decodeEntry p (a ++ v) = .wait n) ∧
  (∀ s : State, exec .unmapped s = .next { s with busyCnt := s.cfg.busyWrite }) ∧
  ∀ (p : Config.Params) (e : EntryWord) (s : State), ∃ t, exec (decodeEntry p e) s = .next t

/-- R85: in the reference map two entries that differ in reserved bits alone have the same effect on every state.
`usedValueBits` lists the value bits that are not reserved; the reserved address bits are `A[30:16]` of a WAIT. -/
def Obligations.ReservedBitsAreIgnored : Prop :=
  (∀ (s : State) (a : Key) (v v' : Byte), s.cfg.map = Config.referenceMap → a.toNat < 0x80000000 →
    v &&& usedValueBits s.cfg a = v' &&& usedValueBits s.cfg a →
    exec (decodeEntry s.cfg (a ++ v)) s = exec (decodeEntry s.cfg (a ++ v')) s) ∧
  ∀ (p : Config.Params) (a a' : Key) (v : Byte), p.map = Config.referenceMap →
    0x80000000 ≤ a.toNat → 0x80000000 ≤ a'.toNat →
    a.toNat % 65536 = a'.toNat % 65536 → decodeEntry p (a ++ v) = decodeEntry p (a' ++ v)

/-- R87 with R283: the six operation codes, their operands, and the two codes that no step performs. That a WRITE
or READ operand too wide for its type is rejected at decode, and that a refused call stays at the head of the
script, are the model's (log entries 7 and 9). -/
def Obligations.HostOperationCodes : Prop :=
  (∀ x y : Nat, decodeCall ⟨0, x, y⟩ = .ok (.reset x y)) ∧
  (∀ (a : Key) (v : Byte), decodeCall ⟨1, a.toNat, v.toNat⟩ = .ok (.write a v)) ∧
  (∀ (a : Key) (y : Nat), decodeCall ⟨2, a.toNat, y⟩ = .ok (.read a)) ∧
  (∀ x y : Nat, decodeCall ⟨3, x, y⟩ = .ok (.generate x)) ∧
  (∀ x y : Nat, decodeCall ⟨4, x, y⟩ = .ok (.setVolume x)) ∧
  (∀ x y : Nat, decodeCall ⟨5, x, y⟩ = .ok .tick) ∧
  ∀ (s : State) (h : HostCall) (rest : List HostCall), s.script = h :: rest → 6 ≤ h.code.toNat →
    step s = .refused (.badCall .noSuchCode)

/-- R89: the pseudo-instructions and their expansions. -/
def Obligations.PseudoInstructionsExpand : Prop :=
  (∀ c : BitVec 3, keyOnMacro c = [.key c true] ∧
    (keyOnMacro c).map assemble = [⟨1, 0x004, 128 + c.toNat⟩]) ∧
  (∀ c : BitVec 3, keyOffMacro c = [.key c false] ∧
    (keyOffMacro c).map assemble = [⟨1, 0x004, c.toNat⟩]) ∧
  (∀ (c : BitVec 3) (fnum : BitVec 11) (block : BitVec 3),
    (freqMacro c fnum block).map assemble =
      [⟨1, 0x100 + 16 * c.toNat, fnum.toNat % 256⟩,
        ⟨1, 0x101 + 16 * c.toNat, fnum.toNat / 256 + 8 * block.toNat⟩]) ∧
  nopMacro.map assemble = [⟨1, 0, 0⟩] ∧ nopMacro = [.statusW] ∧
  (∀ s : State, exec .statusW s = .next { s with busyCnt := s.cfg.busyWrite }) ∧
  (∀ c : BitVec 3, hardResetMacro .two c =
    [.sr c 0 Config.hrRateValue, .rr c 0 Config.hrRateValue,
      .sr c 1 Config.hrRateValue, .rr c 1 Config.hrRateValue,
      .wait Config.hrWaitCycles, .key c true]) ∧
  ∀ c : BitVec 3, hardResetMacro .four c =
    [.sr c 0 Config.hrRateValue, .rr c 0 Config.hrRateValue,
      .sr c 1 Config.hrRateValue, .rr c 1 Config.hrRateValue,
      .sr c 2 Config.hrRateValue, .rr c 2 Config.hrRateValue,
      .sr c 3 Config.hrRateValue, .rr c 3 Config.hrRateValue,
      .wait Config.hrWaitCycles, .key c true]

/-! ## The step and the scheduler -/

/-- The model's choice of a step (log entries 3, 7 and 8), from R5, R233 and R296: one step is the whole of the
host operation at the head of the script, run on the state with that operation taken off; a call that decodes to
nothing is refused; with no operation waiting the state is held. -/
def Obligations.StepRunsTheDecodedOperation : Prop :=
  (∀ (s : State) (h : HostCall) (rest : List HostCall) (i : Instr),
    s.script = h :: rest → decodeCall h = .ok i → step s = exec i { s with script := rest }) ∧
  (∀ (s : State) (h : HostCall) (rest : List HostCall) (why : CallReject),
    s.script = h :: rest → decodeCall h = .error why → step s = .refused (.badCall why)) ∧
  ∀ s : State, s.script = [] → step s = .next s

/-- R214: one chip clock. With nothing to accept or a busy duration still to run it only counts down; otherwise it
removes the head of the queue, gives it the meaning of the command it decodes to, and leaves the command's busy
duration. An entry that sets `d >= 1` lets the next one be accepted `d` chip clocks later. -/
def Obligations.SubtickAcceptsOrCountsDown : Prop :=
  (∀ s : State, s.queue = [] ∨ 2 ≤ s.busyCnt.toNat →
    subtick s = { s with busyCnt := BitVec.ofNat 24 (s.busyCnt.toNat - 1) }) ∧
  (∀ (s : State) (e : Entry) (rest : List Entry), s.queue = e :: rest → s.busyCnt.toNat ≤ 1 →
    exec (decodeEntry s.cfg (e.addr ++ e.value)) { s with queue := rest, busyCnt := 0 } =
        .next (subtick s) ∧
      (subtick s).queue = rest ∧
      (∀ n, decodeEntry s.cfg (e.addr ++ e.value) = .wait n → (subtick s).busyCnt = n) ∧
      ((∀ n, decodeEntry s.cfg (e.addr ++ e.value) ≠ .wait n) →
        (subtick s).busyCnt = s.cfg.busyWrite)) ∧
  ∀ (s : State) (e : Entry) (rest : List Entry) (d : Nat), s.queue = e :: rest →
    s.busyCnt.toNat = d → 1 ≤ d → (subticks (d - 1) s).queue = e :: rest ∧ (subticks d s).queue = rest

/-- R215: at most one entry is accepted per chip clock, whatever duration the last one set; so `n` chip clocks take
at most `n` entries, and always from the head. -/
def Obligations.AtMostOneEntryPerChipClock : Prop :=
  (∀ s : State, (subtick s).queue = s.queue ∨ ∃ e, s.queue = e :: (subtick s).queue) ∧
  ∀ (n : Nat) (s : State), ∃ k, k ≤ n ∧ (subticks n s).queue = s.queue.drop k

/-- R216, R217, R220: while a duration `d` runs the chip clocks change the busy counter alone, and the entry that
waits is taken at chip clock `max(d, 1)`; with an empty queue they only count down, for ever. -/
def Obligations.BusyDurationSeparatesEntries : Prop :=
  (∀ (s : State) (e : Entry) (rest : List Entry), s.queue = e :: rest →
    (∀ m : Nat, m < max s.busyCnt.toNat 1 →
      subticks m s = { s with busyCnt := BitVec.ofNat 24 (s.busyCnt.toNat - m) }) ∧
    (subticks (max s.busyCnt.toNat 1) s).queue = rest) ∧
  ∀ (s : State) (m : Nat), s.queue = [] →
    subticks m s = { s with busyCnt := BitVec.ofNat 24 (s.busyCnt.toNat - m) }

/-- R28, R66: `write` appends at the tail, `reset` empties, the chip clocks inside `generate` and `tick` take from
the head, and nothing else touches the queue. -/
def Obligations.QueueIsFirstInFirstOut : Prop :=
  ∀ (i : Instr) (s t : State), exec i s = .next t →
    (∀ a v, i = .write a v → t.queue = s.queue ++ [⟨a, v⟩]) ∧
    (∀ clk rate, i = .reset clk rate → t.queue = []) ∧
    ((∃ n, i = .generate n) ∨ i = .tick → ∃ k, t.queue = s.queue.drop k) ∧
    ((∀ a v, i ≠ .write a v) → (∀ clk rate, i ≠ .reset clk rate) → (∀ n, i ≠ .generate n) →
      i ≠ .tick → t.queue = s.queue)

/-- R231: the divider is the `while` loop of the rule; each sample holds `floor(CLK_NUM / CLK_DEN)` chip clocks or
one more; after `n` samples exactly `floor((CLKACC + n * CLK_NUM) / CLK_DEN)` have run, with no drift; and the
worked numbers for `reset(7670454, 44100)`. -/
def Obligations.ClockDividerIsExact : Prop :=
  (∀ (s : State) (fuel : Nat), s.clkDen.toNat ≠ 0 → s.clkAcc.toNat + s.clkNum.toNat < fuel →
    dividerLoop fuel (s.clkAcc.toNat + s.clkNum.toNat) s = clockDivider s) ∧
  (∀ s : State, s.clkAcc.toNat < s.clkDen.toNat →
    s.subtickCount = s.clkNum.toNat / s.clkDen.toNat ∨
      s.subtickCount = s.clkNum.toNat / s.clkDen.toNat + 1) ∧
  (∀ (s : State) (n : Nat), s.clkAcc.toNat < s.clkDen.toNat →
    ((List.range n).map fun j => (generateSamples j s).1.subtickCount).sum =
        (s.clkAcc.toNat + n * s.clkNum.toNat) / s.clkDen.toNat ∧
      (generateSamples n s).1.clkAcc.toNat =
        (s.clkAcc.toNat + n * s.clkNum.toNat) % s.clkDen.toNat) ∧
  (let s := State.afterReset Config.reference [] 7670454 44100
   s.subtickCount = 173 ∧ (generateSamples 1 s).1.subtickCount = 174 ∧
      ((List.range 1000).map fun j => (generateSamples j s).1.subtickCount).sum = 173933 ∧
      (generateSamples 1000 s).1.clkAcc = 8700)

/-! ## The register-write commands -/

/-- R250 to R253, R267, R268: the global commands, WAIT and UNMAPPED on every state, with everything each of them
changes. That a command's meaning sets the busy counter is how the model splits R214 (log entry 8). -/
def Obligations.GlobalCommandsTakeEffect : Prop :=
  ∀ s : State,
    exec .statusW s = .next { s with busyCnt := s.cfg.busyWrite } ∧
    (∀ f, exec (.lfoAmFreq f) s = .next { s with lfoAmFreq := f, busyCnt := s.cfg.busyWrite }) ∧
    (∀ f, exec (.lfoPmFreq f) s = .next { s with lfoPmFreq := f, busyCnt := s.cfg.busyWrite }) ∧
    (∀ am pm, exec (.lfoWave am pm) s =
      .next { s with lfoAmWave := am, lfoPmWave := pm, busyCnt := s.cfg.busyWrite }) ∧
    (∀ n, exec (.wait n) s = .next { s with busyCnt := n }) ∧
    exec .unmapped s = .next { s with busyCnt := s.cfg.busyWrite }

/-- R156, R157, R254: key-on of any channel, whatever its operators were doing, and everything it leaves alone; for
a channel the instance does not have, nothing but the busy duration. -/
def Obligations.KeyOnRestartsTheChannel : Prop :=
  ∀ (s : State) (c : BitVec 3), ∃ t, exec (.key c true) s = .next t ∧ t.busyCnt = s.cfg.busyWrite ∧
    OnlyChannel s t c.toNat fun ch =>
      if c.toNat < s.cfg.nch then
        { ch with
          keyLatch := true, fbh1 := 0, fbh2 := 0
          ops := ch.ops.map fun o =>
            { o with
              egMode := .attack, egLevel := 1023, egAtkPos := 0, egAcc := 0, enable := true
              phase := 0 } }
      else ch

/-- R158, R254: key-off of any channel: the latch, and Release from the level it has for each operator that is
keyed and does not ignore key-off. -/
def Obligations.KeyOffReleasesKeyedOperators : Prop :=
  ∀ (s : State) (c : BitVec 3), ∃ t, exec (.key c false) s = .next t ∧ t.busyCnt = s.cfg.busyWrite ∧
    OnlyChannel s t c.toNat fun ch =>
      if c.toNat < s.cfg.nch then
        { ch with
          keyLatch := false
          ops := ch.ops.map fun o =>
            if o.egtIgnk = false ∧ (o.egMode = .attack ∨ o.egMode = .decay ∨ o.egMode = .sustain ∨
              o.egMode = .sustainHold) then { o with egMode := .release, egAcc := 0 } else o }
      else ch

/-- R125 to R127, R255, R256: a frequency byte fills its latch; the one that lands second retunes the channel from
both latches, in whichever order they came. -/
def Obligations.FrequencyBytesRetuneOnlyTogether : Prop :=
  (∀ (s : State) (c : BitVec 3) (lo : BitVec 8), ∃ t, exec (.freqLo c lo) s = .next t ∧
    t.busyCnt = s.cfg.busyWrite ∧
    OnlyChannel s t c.toNat fun ch =>
      if c.toNat < s.cfg.nch then
        if ch.hiLanded = true then ruleRetune s.cps lo ch.fhiLatch ch
        else { ch with floLatch := lo, loLanded := true }
      else ch) ∧
  ∀ (s : State) (c fhi block : BitVec 3), ∃ t, exec (.freqHi c fhi block) s = .next t ∧
    t.busyCnt = s.cfg.busyWrite ∧
    OnlyChannel s t c.toNat fun ch =>
      if c.toNat < s.cfg.nch then
        if ch.loLanded = true then ruleRetune s.cps ch.floLatch (block ++ fhi) ch
        else { ch with fhiLatch := block ++ fhi, hiLanded := true }
      else ch

/-- R257, R258: ALG_FB stores three algorithm bits with four operators and one with two; PAN_LFO stores all three
of its fields; neither touches anything else. -/
def Obligations.RoutingAndPanCommands : Prop :=
  (∀ (s : State) (c alg fb : BitVec 3), ∃ t, exec (.algFb c alg fb) s = .next t ∧
    t.busyCnt = s.cfg.busyWrite ∧
    OnlyChannel s t c.toNat fun ch =>
      if c.toNat < s.cfg.nch then
        { ch with alg := if s.cfg.ops = .four then alg else BitVec.ofNat 3 (alg.toNat % 2), fb := fb }
      else ch) ∧
  ∀ (s : State) (c : BitVec 3) (pan ams : BitVec 2) (pms : BitVec 3), ∃ t,
    exec (.panLfo c pan ams pms) s = .next t ∧ t.busyCnt = s.cfg.busyWrite ∧
    OnlyChannel s t c.toNat fun ch =>
      if c.toNat < s.cfg.nch then { ch with pan := pan, ams := ams, pms := pms } else ch

/-- R259, R127: MUL_DT stores both fields and recomputes the operator's increment from the channel's ACTIVE
frequency. -/
def Obligations.MulDtRecomputesTheIncrement : Prop :=
  ∀ (s : State) (c : BitVec 3) (k : BitVec 2) (mul : BitVec 4) (dt : BitVec 3), ∃ t,
    exec (.mulDt c k mul dt) s = .next t ∧ t.busyCnt = s.cfg.busyWrite ∧ SameGlobals s t ∧
    (∀ c', (t.chan? c').map Channel.core = (s.chan? c').map Channel.core) ∧
    ∀ c' k', t.oper? c' k' =
      if c' = c.toNat ∧ k' = k.toNat ∧ hasOperator s.cfg c k = true then
        (s.chan? c').bind fun ch => (ch.ops[k']?).map fun o =>
          { o with
            mul := mul, dt := dt
            inc := BitVec.ofNat 20
              (ruleInc s.cps.toNat ch.fnum.toNat ch.block.toNat mul.toNat dt.toNat) }
      else s.oper? c' k'

/-- R260 to R266: each of the other operator commands stores its own fields in the operator it names, and changes
nothing else. -/
def Obligations.OperatorCommandsStoreTheirFields : Prop :=
  ∀ (c : BitVec 3) (k : BitVec 2),
    (∀ x, WritesOperator (.tl c k x) c k fun o => { o with tl := x }) ∧
    (∀ x, WritesOperator (.ar c k x) c k fun o => { o with ar := x }) ∧
    (∀ x, WritesOperator (.dr c k x) c k fun o => { o with dr := x }) ∧
    (∀ x, WritesOperator (.sr c k x) c k fun o => { o with sr := x }) ∧
    (∀ x, WritesOperator (.rr c k x) c k fun o => { o with rr := x }) ∧
    (∀ x y, WritesOperator (.slKs c k x y) c k fun o => { o with sl := x, ks := y }) ∧
    ∀ x h g, WritesOperator (.egtSsg c k x h g) c k fun o =>
      { o with ssg := x, egtHold := h, egtIgnk := g }

/-- R37, R45, R254, R268: a command that names a channel or operator the instance does not have takes its busy
duration and changes nothing else, and such an entry decodes to UNMAPPED in the first place. -/
def Obligations.AbsentIndicesTakeTimeOnly : Prop :=
  (∀ (s : State) (i : Instr), i.isQueueCommand = true → i.wellFormed s.cfg = false →
    exec i s = .next { s with busyCnt := s.cfg.busyWrite }) ∧
  (∀ (s : State) (c : BitVec 3) (on : Bool), s.cfg.nch ≤ c.toNat →
    exec (.key c on) s = .next { s with busyCnt := s.cfg.busyWrite }) ∧
  (∀ (p : Config.Params) (r : BitVec 4) (c : BitVec 3) (v : Byte), p.map = Config.referenceMap →
    p.nch ≤ c.toNat → decodeEntry p (channelEntry r c v) = .unmapped) ∧
  ∀ (p : Config.Params) (r : BitVec 4) (c : BitVec 3) (k : BitVec 2) (v : Byte),
    p.map = Config.referenceMap → p.nch ≤ c.toNat ∨ p.ops.count ≤ k.toNat →
    decodeEntry p (operatorEntry r c k v) = .unmapped

/-- R141, R44, R154, R159: every change of an envelope's mode is an edge of the table. A command changes it only by
key-on of the operator's own channel, to Attack, or by key-off of that channel, to Release; a SAMPLETICK only along
the edges of `sampleEdge`, and that is the one way an operator is disabled, at the ceiling level. -/
def Obligations.ModeTransitionsAreTheTable : Prop :=
  (∀ (i : Instr) (s t : State) (c k : Nat) (o o' : Operator), i.isQueueCommand = true →
    exec i s = .next t → s.oper? c k = some o → t.oper? c k = some o' →
    (o'.egMode = o.egMode ∧ o'.enable = o.enable) ∨
    (∃ x, i = .key x true ∧ x.toNat = c ∧ o'.egMode = .attack ∧ o'.enable = true) ∨
    (∃ x, i = .key x false ∧ x.toNat = c ∧ o'.egMode = .release ∧ o.egtIgnk = false ∧
      o.egMode ≠ .off ∧ o'.enable = o.enable)) ∧
  ∀ (s : State) (c k : Nat) (o o' : Operator), s.oper? c k = some o →
    (sampleTick s).oper? c k = some o' →
    (o'.egMode = o.egMode ∨ sampleEdge o o'.egMode) ∧
    (o.enable = true → o'.enable = false →
      (o.egMode = .sustain ∨ o.egMode = .release) ∧ o'.egMode = .off ∧ o'.egLevel = 1023) ∧
    (o.enable = false → o'.enable = false)

/-- R32, R39, R127: the active frequency and the cached increments change only at the two frequency commands and at
MUL_DT; no other command and no SAMPLETICK writes them. -/
def Obligations.OnlyRetuneAndMulDtWriteIncrements : Prop :=
  (∀ (i : Instr) (s t : State), i.isQueueCommand = true → (∀ c lo, i ≠ .freqLo c lo) →
    (∀ c fhi block, i ≠ .freqHi c fhi block) → (∀ c k mul dt, i ≠ .mulDt c k mul dt) →
    exec i s = .next t →
    t.ch.map (fun ch => (ch.fnum, ch.block, ch.kcode, ch.ops.map Operator.inc)) =
      s.ch.map fun ch => (ch.fnum, ch.block, ch.kcode, ch.ops.map Operator.inc)) ∧
  ∀ s : State,
    (sampleTick s).ch.map (fun ch => (ch.fnum, ch.block, ch.kcode, ch.ops.map Operator.inc)) =
      s.ch.map fun ch => (ch.fnum, ch.block, ch.kcode, ch.ops.map Operator.inc)

/-! ## The host operations -/

/-- R52: every state element right after `reset`, for every state before it and all legal arguments. -/
def Obligations.ResetWritesEveryElement : Prop :=
  ∀ (s : State) (clk rate : Nat), resetLegal clk rate → ∃ t, exec (.reset clk rate) s = .next t ∧
    t.ready = true ∧ t.clkNum.toNat = clk ∧ t.clkDen.toNat = rate ∧ t.cps.toNat = clk * 4096 / rate ∧
    t.clkAcc = 0 ∧ t.queue = [] ∧ t.busyCnt = 0 ∧ t.vol = 0 ∧
    t.lfoAmFreq = 0 ∧ t.lfoPmFreq = 0 ∧ t.lfoAmWave = 0 ∧ t.lfoPmWave = 0 ∧
    t.lfoAmCnt = 0 ∧ t.lfoPmCnt = 0 ∧ t.outL = 0 ∧ t.outR = 0 ∧
    t.ch.length = s.cfg.nch ∧
    ∀ ch ∈ t.ch,
      ch.floLatch = 0 ∧ ch.fhiLatch = 0 ∧ ch.loLanded = false ∧ ch.hiLanded = false ∧ ch.fnum = 0 ∧
      ch.block = 0 ∧ ch.kcode = 0 ∧ ch.alg = 0 ∧ ch.fb = 0 ∧ ch.pan = 3 ∧ ch.ams = 0 ∧ ch.pms = 0 ∧
      ch.keyLatch = false ∧ ch.fbh1 = 0 ∧ ch.fbh2 = 0 ∧ ch.chout = 0 ∧
      ch.ops.length = s.cfg.ops.count ∧
      ∀ o ∈ ch.ops,
        o.mul = 0 ∧ o.dt = 0 ∧ o.tl = 0 ∧ o.ar = 0 ∧ o.dr = 0 ∧ o.sr = 0 ∧ o.rr = 0 ∧ o.sl = 0 ∧
        o.ks = 0 ∧ o.ssg = 0 ∧ o.egtHold = false ∧ o.egtIgnk = false ∧ o.phase = 0 ∧ o.inc = 0 ∧
        o.egMode = .off ∧ o.egLevel = 1023 ∧ o.egAcc = 0 ∧ o.egAtkPos = 0 ∧ o.enable = false

/-- R302: exactly the arguments outside the preconditions are refused; with `clk = 0`, which is legal, nothing is
ever accepted, whatever is queued, and every sample is 0, whatever the volume. What `generate` returns is read in
the model's field `reply` (log entry 7). -/
def Obligations.ResetArgumentsAreChecked : Prop :=
  (∀ (s : State) (clk rate : Nat),
    exec (.reset clk rate) s = .refused .resetArguments ↔
      ¬ (1 ≤ rate ∧ rate < 2 ^ 32 ∧ clk < 2 ^ 32 ∧ clk * 4096 / rate < 2 ^ 24)) ∧
  (∀ (s : State) (clk rate : Nat), 1 ≤ rate → rate < 2 ^ 32 → clk < 2 ^ 32 →
    clk * 4096 / rate < 2 ^ 24 → ∃ t, exec (.reset clk rate) s = .next t) ∧
  ∀ (cfg : Config.Params) (script : List HostCall) (rate n : Nat) (q : List Entry)
    (vol : BitVec 12),
    1 ≤ rate → rate < 2 ^ 32 →
    exec (.generate n) { State.afterReset cfg script 0 rate with queue := q, vol := vol } =
      .next { State.afterReset cfg script 0 rate with
        queue := q, vol := vol, reply := .samples (List.replicate n (0, 0)) }

/-- R303: the state after `reset` depends on its arguments and on nothing before, so the same script gives the same
samples; twice is the same as once. The instance and the host's script are no part of what is reset (log entries 4
and 7). -/
def Obligations.ResetForgetsThePast : Prop :=
  (∀ (s s' : State) (clk rate : Nat), s.cfg = s'.cfg → s.script = s'.script → resetLegal clk rate →
    ∃ t, exec (.reset clk rate) s = .next t ∧ exec (.reset clk rate) s' = .next t ∧
      ∀ n, Host.Core.run Sys2Proof.core n t = Host.Core.run Sys2Proof.core n
        (State.afterReset s'.cfg s'.script clk rate)) ∧
  ∀ (s t : State) (clk rate : Nat), exec (.reset clk rate) s = .next t →
    exec (.reset clk rate) t = .next t

/-- R284: before the first `reset` every other host operation is refused; a successful `reset` sets READY; no
operation clears it; and with READY set none of the five is refused for want of it. -/
def Obligations.ReadyIsRequiredAndPermanent : Prop :=
  (∀ s : State, s.ready = false →
    (∀ a v, exec (.write a v) s = .refused .notReady) ∧
    (∀ a, exec (.read a) s = .refused .notReady) ∧
    (∀ n, exec (.generate n) s = .refused .notReady) ∧
    exec .tick s = .refused .notReady ∧
    ∀ l, exec (.setVolume l) s = .refused .notReady) ∧
  (∀ (s t : State) (clk rate : Nat), exec (.reset clk rate) s = .next t → t.ready = true) ∧
  (∀ (i : Instr) (s t : State), exec i s = .next t → s.ready = true → t.ready = true) ∧
  ∀ (i : Instr) (s : State), s.ready = true → exec i s ≠ .refused .notReady

/-- R21, R26, R27, R30, R31, R48: `VOL` changes only at SETVOLUME and RESET, the clock latches only at RESET, the
divider's remainder, the LFO counters and the output pair only at RESET, GENERATE and TICK, and the structural
parameters never. The host's script, a field of the model's own (log entry 7), is no operation's to change. -/
def Obligations.LatchesChangeOnlyAtTheirOperation : Prop :=
  ∀ (i : Instr) (s t : State), exec i s = .next t →
    t.cfg = s.cfg ∧ t.script = s.script ∧
    ((∀ clk rate, i ≠ .reset clk rate) →
      t.clkNum = s.clkNum ∧ t.clkDen = s.clkDen ∧ t.cps = s.cps ∧
      ((∀ l, i ≠ .setVolume l) → t.vol = s.vol) ∧
      ((∀ n, i ≠ .generate n) → i ≠ .tick →
        t.clkAcc = s.clkAcc ∧ t.lfoAmCnt = s.lfoAmCnt ∧ t.lfoPmCnt = s.lfoPmCnt ∧ t.outL = s.outL ∧
        t.outR = s.outR))

/-- R212: `write` is one append, whatever the address and value. The reply field is the model's (log entry 7). -/
def Obligations.WriteAppendsOneEntry : Prop :=
  ∀ (s : State) (a : Key) (v : Byte), s.ready = true →
    exec (.write a v) s = .next { s with queue := s.queue ++ [⟨a, v⟩], reply := .done }

/-- R218, R47: in the reference map `read` changes nothing in the block and returns STATUS at key 0, the sentinel at
every other key. For other maps (R64: "the whole map is replaceable") that the keys of STATUS belong to the map, so that
`read` returns STATUS where `readsStatus` says so, is the model's choice (log entry 4). The reply field is the model's
(log entry 7). -/
def Obligations.ReadReturnsStatusOrSentinel : Prop :=
  ∀ (s : State) (a : Key), s.ready = true → ∃ b : Byte,
    exec (.read a) s = .next { s with reply := .byte b } ∧
    (readsStatus s.cfg a = true →
      b.toNat = (if s.busyCnt = 0 then 0 else 0x80) + (if s.queue = [] then 0 else 0x40)) ∧
    (readsStatus s.cfg a = false → b = s.cfg.readSentinel) ∧
    (s.cfg.map = Config.referenceMap → (readsStatus s.cfg a = true ↔ a = 0))

/-- R240, R239: of the block's state `setVolume` writes the offset and nothing else; a level above 4095 is refused;
level 4095 silences every mix the block can produce. The field `reply`, which says that the call is done, is the
model's (log entry 7). -/
def Obligations.SetVolumeWritesTheOffset : Prop :=
  (∀ (s : State) (l : Nat), s.ready = true → l ≤ 4095 →
    exec (.setVolume l) s = .next { s with vol := BitVec.ofNat 12 l, reply := .done }) ∧
  (∀ (s : State) (l : Nat), s.ready = true → 4095 < l →
    exec (.setVolume l) s = .refused .volumeLevel) ∧
  ∀ m : Int, Within 131072 m → volumeStage 4095 m = 0

/-- R234, R237, R241: `generate(0)` does nothing to the block; `generate(n + 1)` is one sample, its chip clocks before
its SAMPLETICK, then `generate(n)`, and returns that sample's pair first; `tick()` is `generate(1)`. What a call
returns stands in the model's field `reply` (log entry 7), which is all that `generate(0)` sets. -/
def Obligations.GenerateIsSampleBySample : Prop :=
  ∀ s : State, s.ready = true →
    exec (.generate 0) s = .next { s with reply := .samples [] } ∧
    (∀ n : Nat, ∃ t l, exec (.generate n) (sampleTick (clockDivider s)) = .next t ∧
      t.reply = .samples l ∧ l.length = n ∧
      exec (.generate (n + 1)) s =
        .next { t with
          reply := .samples
            (((sampleTick (clockDivider s)).outL, (sampleTick (clockDivider s)).outR) :: l) }) ∧
    exec .tick s = exec (.generate 1) s ∧
    ∃ t, exec .tick s = .next t ∧ t.reply = .samples [(t.outL, t.outR)]

/-- R235: `generate(a)` then `generate(b)` gives the samples and the end state of `generate(a + b)`. What a call
returns is read in the model's field `reply` (log entry 7). -/
def Obligations.GenerateResumesExactly : Prop :=
  ∀ (s : State) (a b : Nat), s.ready = true → ∃ t u la lb,
    exec (.generate a) s = .next t ∧ t.reply = .samples la ∧
    exec (.generate b) t = .next u ∧ u.reply = .samples lb ∧
    exec (.generate (a + b)) s = .next { u with reply := .samples (la ++ lb) }

/-- R304, R196, R231: `generate(n)` right after `reset` returns `n` pairs (0, 0) and of the block's state changes only
`CLKACC`, for every instance and every legal pair of clocks. What it returns stands in the model's field `reply` (log
entry 7). -/
def Obligations.GenerateAfterResetIsSilent : Prop :=
  ∀ (cfg : Config.Params) (script : List HostCall) (clk rate n : Nat), resetLegal clk rate →
    exec (.generate n) (State.afterReset cfg script clk rate) =
      .next { State.afterReset cfg script clk rate with
        clkAcc := BitVec.ofNat 32 (n * clk % rate), reply := .samples (List.replicate n (0, 0)) }

/-- R21, R120, R236: a `generate` with nothing queued leaves the register file, the active frequencies, the
increments and the key latches of every channel as they are; of an operator only its phase, its envelope state and
its enable flag may move. -/
def Obligations.SamplesLeaveTheRegisterFile : Prop :=
  ∀ (s : State) (n : Nat), s.ready = true → s.queue = [] → ∃ t, exec (.generate n) s = .next t ∧
    t.queue = [] ∧ t.ch.map Channel.registers = s.ch.map Channel.registers ∧
    t.ch.map (fun ch => (ch.loLanded, ch.hiLanded, ch.fnum, ch.block, ch.kcode, ch.keyLatch,
        ch.ops.map Operator.inc)) =
      s.ch.map (fun ch => (ch.loLanded, ch.hiLanded, ch.fnum, ch.block, ch.kcode, ch.keyLatch,
        ch.ops.map Operator.inc)) ∧
    t.vol = s.vol ∧ t.lfoAmFreq = s.lfoAmFreq ∧ t.lfoPmFreq = s.lfoPmFreq ∧
    t.lfoAmWave = s.lfoAmWave ∧ t.lfoPmWave = s.lfoPmWave

/-! ## Tables and conversions -/

/-- R101: every entry of `EXPTAB` is the rounded power of two, said on integers; the first entry and the sum. -/
def Obligations.ExpTableIsRoundedPowers : Prop :=
  expTab 0 = 2 ^ 18 ∧
  (∀ i : Fin 256, 1 ≤ i.val →
    (2 * expTab i - 1) ^ 256 < 2 ^ (4864 - i.val) ∧
      2 ^ (4864 - i.val) < (2 * expTab i + 1) ^ 256) ∧
  ((List.finRange 256).map expTab).sum = 48474373

/-- R102, R103, R105: `LINMAG`, its monotonicity and its values; the second table; and `logToLinear` on every log
word and shift: the shifted magnitude with the sign put on afterwards, silence above the ceiling. -/
def Obligations.LogToLinearReadsTheMagnitude : Prop :=
  (∀ a : Nat, a ≤ 4095 → linMag a = expTab (Fin.ofNat 256 a) / 2 ^ (a / 256)) ∧
  (∀ a : Nat, 4095 < a → linMag a = 0) ∧
  (∀ a b : Nat, a ≤ b → linMag b ≤ linMag a) ∧
  linMag 0 = 262144 ∧ linMag 256 = 131072 ∧ linMag 4095 = 4 ∧ linMag 4096 = 0 ∧
  (∀ (L : Fin 8192) (a s : Nat), s ≤ 1 → L.val = 2 * a + s → linTab L = (-1) ^ s * (linMag a : Int)) ∧
  (∀ a shift : Nat, logToLinear (2 * a) shift = (linMag a / 2 ^ shift : Nat)) ∧
  (∀ a shift : Nat, logToLinear (2 * a + 1) shift = -((linMag a / 2 ^ shift : Nat) : Int)) ∧
  ∀ L shift : Nat, Within (262144 / 2 ^ shift : Nat) (logToLinear L shift) ∧
    (8192 ≤ L → logToLinear L shift = 0)

/-- R106: `linearToLog` gives the least attenuation whose magnitude does not exceed the value, and its sign. -/
def Obligations.LinearToLogFindsTheLeast : Prop :=
  (∀ v : Int, ∃ a : Nat, a ≤ 4096 ∧ linMag a ≤ v.natAbs ∧ (∀ b : Nat, b < a → v.natAbs < linMag b) ∧
    linearToLog v = 2 * a + (if v < 0 then 1 else 0)) ∧
  linearToLog 0 = 8192 ∧ linearToLog (-1) = 8193 ∧ linearToLog (-5000) = 2927 ∧
  (∀ v : Int, 1 ≤ v.natAbs → v.natAbs ≤ 3 → linearToLog v / 2 = 4096) ∧
  ∀ v : Int, 262144 ≤ v.natAbs → linearToLog v / 2 = 0

/-- R107: the laws of the pair. -/
def Obligations.LogPairLaws : Prop :=
  (∀ v : Int,
    (0 < v → 0 ≤ logToLinear (linearToLog v) 0) ∧ (v < 0 → logToLinear (linearToLog v) 0 ≤ 0) ∧
    (logToLinear (linearToLog v) 0).natAbs ≤ min v.natAbs 262144 ∧
    ((logToLinear (linearToLog v) 0).natAbs = v.natAbs ↔ ∃ a, linMag a = v.natAbs) ∧
    (logToLinear (linearToLog v) 0 = 0 ↔ v.natAbs ≤ 3)) ∧
  (∀ a : Nat, a ≤ 4096 →
    linMag (linearToLog (linMag a) / 2) = linMag a ∧
    ∀ b : Nat, linMag b = linMag a → linearToLog (linMag a) / 2 ≤ b) ∧
  ∀ v w : Int, v.natAbs ≤ w.natAbs → linearToLog w / 2 ≤ linearToLog v / 2

/-- R109: the table the operators index is `linearToLog` of the symmetric sine; its sign is bit 9 of the index; its
attenuation is that of the quarter wave; and the extremes of the attenuation. -/
def Obligations.SineTableIsTheLogSine : Prop :=
  (∀ p : BitVec 10, sinTab p = linearToLog (sinFull p) ∧ sinTab p % 2 = p.toNat / 512 ∧
    1 ≤ sinTab p / 2 ∧ sinTab p / 2 ≤ 2137) ∧
  (∀ p : BitVec 10, sinTab p / 2 =
    sinAtt (Fin.ofNat 256
      (if p.toNat % 512 < 256 then p.toNat % 512 else 511 - p.toNat % 512))) ∧
  ((List.finRange 256).map sinAtt).sum = 65536 ∧
  sinTab 0 = 4274 ∧ sinTab 255 = 2 ∧ sinTab 256 = 2 ∧ sinTab 511 = 4274 ∧ sinTab 512 = 4275 ∧
  sinTab 767 = 3 ∧ sinTab 768 = 3 ∧ sinTab 1023 = 4275

/-- R142, R143, R174, R175: the rate table, the attack curve and the two LFO tables hold what their definitions
say. -/
def Obligations.EnvelopeAndLfoTables : Prop :=
  (∀ i : Fin 64, i.val < 4 → rateInc i = 0) ∧
  (∀ i : Fin 64, 4 ≤ i.val → rateInc i = (4 + i.val % 4) * 2 ^ (i.val / 4)) ∧
  attackCurve 0 = 1023 ∧ attackCurve 40 = 0 ∧
  (∀ p q : Fin 41, q.val = p.val + 1 →
    attackCurve q = attackCurve p - attackCurve p / 8 - 1 ∧ attackCurve q < attackCurve p) ∧
  (∀ i : BitVec 5,
    amTab 0 i = (if i.toNat < 16 then 4 * i.toNat else 4 * (31 - i.toNat)) ∧
    amTab 1 i = 2 * i.toNat ∧ amTab 2 i = 62 - 2 * i.toNat ∧
    amTab 3 i = if i.toNat < 16 then 0 else 63) ∧
  ∀ i : BitVec 5,
    pmTab 0 i = (if i.toNat < 8 then 4 * (i.toNat : Int)
      else if i.toNat < 24 then 4 * (16 - (i.toNat : Int)) else 4 * ((i.toNat : Int) - 32)) ∧
    pmTab 1 i = 2 * (i.toNat : Int) - 32 ∧ pmTab 2 i = 30 - 2 * (i.toNat : Int) ∧
    pmTab 3 i = if i.toNat < 16 then 32 else -32

/-! ## The datapath -/

/-- R177, R178: what a channel makes of the two LFO outputs, and the bounds of the amplitude part. -/
def Obligations.LfoDepthsScaleTheOutputs : Prop :=
  (∀ am : Nat, amContrib 0 am = 0) ∧
  (∀ (ams : BitVec 2) (am : Nat), ams ≠ 0 → amContrib ams am = am * 2 ^ (ams.toNat + 1)) ∧
  (∀ s : State, amContrib 1 s.amOut ≤ 252 ∧ amContrib 2 s.amOut ≤ 504 ∧ amContrib 3 s.amOut ≤ 1008) ∧
  (∀ (inc : BitVec 20) (pm : Int) (pms : BitVec 3),
    pmDelta inc pm pms = ((inc.toNat : Int) * pm * (pms.toNat : Int)) / 8192) ∧
  pmDelta 5435 32 7 = 148 ∧ pmDelta 5435 (-32) 7 = -149 ∧ pmDelta 1 (-4) 1 = -1

/-- R121, R178: the phase step wraps at 2^20 and never goes backward: increment plus LFO delta is never negative, at
whatever depth and LFO output the block can have. -/
def Obligations.PhaseStepNeverGoesBackward : Prop :=
  (∀ (d : Int) (o : Operator), o.phaseStep d = { o with phase := (o.phaseStep d).phase } ∧
    ((o.phaseStep d).phase.toNat : Int) = ((o.phase.toNat : Int) + (o.inc.toNat : Int) + d) % 1048576) ∧
  ∀ (s : State) (inc : BitVec 20) (pms : BitVec 3), 0 ≤ (inc.toNat : Int) + pmDelta inc s.pmOut pms

/-- R129: frequency 0 gives increment 0 whatever the multiple, detune, block and clocks are; and at a SAMPLETICK an
operator with increment 0 keeps its phase, whatever the LFO and its depth, while its envelope runs on. -/
def Obligations.ZeroFrequencyHoldsThePhase : Prop :=
  (∀ (cps : BitVec 24) (block : BitVec 3) (mul : BitVec 4) (dt : BitVec 3),
    incOf cps 0 block mul dt = 0) ∧
  ∀ (s : State) (c k : Nat) (ch : Channel) (o : Operator), s.chan? c = some ch →
    s.oper? c k = some o → o.inc = 0 →
    (sampleTick s).oper? c k = some (o.egStep ch.kcode) ∧ (o.egStep ch.kcode).phase = o.phase

/-- R144, R146 to R155: one envelope step, mode by mode, with every field it changes. -/
def Obligations.EnvelopeStepByMode : Prop :=
  ∀ (kcode : BitVec 5) (o : Operator),
    (o.egMode = .off ∨ o.egMode = .sustainHold → o.egStep kcode = o) ∧
    (o.egMode = .attack →
      let pos : Fin 41 := ⟨min (o.egAtkPos.toNat + ruleSteps o o.ar.toNat kcode) 40, by omega⟩
      (pos.val < 40 → o.egStep kcode =
        { o with
          egAcc := ruleFraction o o.ar.toNat kcode, egAtkPos := BitVec.ofNat 6 pos.val
          egLevel := BitVec.ofNat 10 (attackCurve pos) }) ∧
      (pos.val = 40 → o.egStep kcode =
        { o with egAcc := 0, egAtkPos := 40, egLevel := 0, egMode := .decay })) ∧
    (o.egMode = .decay →
      let level := min (o.egLevel.toNat + ruleSteps o o.dr.toNat kcode) 1023
      (level < o.sl.toNat * 64 → o.egStep kcode =
        { o with egAcc := ruleFraction o o.dr.toNat kcode, egLevel := BitVec.ofNat 10 level }) ∧
      (o.sl.toNat * 64 ≤ level → o.egStep kcode =
        { o with
          egAcc := 0, egLevel := BitVec.ofNat 10 level
          egMode := if o.egtHold then .sustainHold else .sustain })) ∧
    (∀ rate : Nat, (o.egMode = .sustain ∧ rate = o.sr.toNat) ∨ (o.egMode = .release ∧ rate = o.rr.toNat) →
      let level := o.egLevel.toNat + ruleSteps o rate kcode
      (level < 1023 → o.egStep kcode =
        { o with egAcc := ruleFraction o rate kcode, egLevel := BitVec.ofNat 10 level }) ∧
      (1023 ≤ level → o.egStep kcode =
        { o with egAcc := 0, egLevel := 1023, egMode := .off, enable := false }))

/-- R145: between commands the envelope is monotonic: in Attack the level never rises, in every other mode it never
falls. For Attack the invariant of R45 is needed: the level is the curve's value. -/
def Obligations.EnvelopeIsMonotonic : Prop :=
  ∀ (kcode : BitVec 5) (o : Operator), o.EnvelopeOk → (o.egStep kcode).EnvelopeOk ∧
    (o.egMode = .attack → (o.egStep kcode).egLevel.toNat ≤ o.egLevel.toNat ∧
      o.egAtkPos.toNat ≤ (o.egStep kcode).egAtkPos.toNat) ∧
    (o.egMode ≠ .attack → o.egLevel.toNat ≤ (o.egStep kcode).egLevel.toNat)

/-- R186, R187, R161, R105: what an operator puts out: exactly 0 while disabled; else the magnitude of the summed
attenuation over 64 with the sign of the sine; never beyond 4096; 0 from attenuation 3073 on, and so for every total
level of 96 or more. The SSG-EG transform enters in the decay and sustain modes only, is the identity at mode 0, and
never feeds back. -/
def Obligations.OperatorOutputFormula : Prop :=
  (∀ (o : Operator) (am : Nat) (p : BitVec 10), o.enable = false → o.output am p = 0) ∧
  (∀ (o : Operator) (am : Nat) (p : BitVec 10), o.enable = true →
    let att := sinTab p / 2 + (o.egOut.toNat * 4 + o.tl.toNat * 32 + am)
    o.output am p = (if p.toNat < 512 then 1 else -1) * ((linMag att / 64 : Nat) : Int) ∧
    (3073 ≤ att → o.output am p = 0)) ∧
  (∀ (o : Operator) (am : Nat) (p : BitVec 10), Within 4096 (o.output am p) ∧
    (96 ≤ o.tl.toNat → o.output am p = 0)) ∧
  (∀ o : Operator, o.egMode = .decay ∨ o.egMode = .sustain ∨ o.egMode = .sustainHold →
    o.egOut = Config.ssgXform o.ssg o.egLevel) ∧
  (∀ o : Operator, o.egMode = .off ∨ o.egMode = .attack ∨ o.egMode = .release ∨ o.ssg = 0 →
    o.egOut = o.egLevel) ∧
  ∀ (kcode : BitVec 5) (o : Operator) (m : BitVec 4),
    ({ o with ssg := m } : Operator).egStep kcode = { o.egStep kcode with ssg := m }

/-- R189: the feedback term: only operator 0 has one, amount 0 is exactly none, and then the outputs do not depend
on the history at all. -/
def Obligations.FeedbackTerm : Prop :=
  (∀ (ch : Channel) (k : Nat), k ≠ 0 ∨ ch.fb = 0 → ch.feedback k = 0) ∧
  (∀ ch : Channel, ch.fb ≠ 0 →
    ch.feedback 0 = (ch.fbh1.toInt + ch.fbh2.toInt) / 2 ^ (10 - ch.fb.toNat)) ∧
  (∀ ch : Channel, Within 4096 ch.fbh1.toInt → Within 4096 ch.fbh2.toInt →
    Within 1024 (ch.feedback 0)) ∧
  ∀ (ch : Channel) (ops : Config.OperatorCount) (am : Nat) (x y : BitVec 14), ch.fb = 0 →
    ({ ch with fbh1 := x, fbh2 := y } : Channel).outputs ops am = ch.outputs ops am

/-- R185, R188, R191, R192, R195: the algorithm tables; every modulator comes before what it modulates; and every
operator's output is that of its phase index offset by half the sum of its modulators' outputs of this same sample
and by the feedback. -/
def Obligations.OperatorsRouteWithinTheSample : Prop :=
  (∀ alg : BitVec 3, alg.toNat < 2 → (List.range 2).map (modsOf .two alg) =
      [[[], [0]], [[], []]].getD alg.toNat [] ∧
    carriersOf .two alg = [[1], [0, 1]].getD alg.toNat []) ∧
  (∀ alg : BitVec 3, (List.range 4).map (modsOf .four alg) =
      [[[], [0], [1], [2]], [[], [], [0, 1], [2]], [[], [], [1], [0, 2]], [[], [0], [], [1, 2]],
        [[], [0], [], [2]], [[], [0], [0], [0]], [[], [0], [], []], [[], [], [], []]].getD alg.toNat [] ∧
    carriersOf .four alg =
      [[3], [3], [3], [3], [1, 3], [1, 2, 3], [1, 2, 3], [0, 1, 2, 3]].getD alg.toNat []) ∧
  (∀ (ops : Config.OperatorCount) (alg : BitVec 3) (k m : Nat), m ∈ modsOf ops alg k → m < k) ∧
  ∀ (ch : Channel) (ops : Config.OperatorCount) (am k : Nat) (o : Operator), ch.ops[k]? = some o →
    (ch.outputs ops am)[k]? = some (o.output (amContrib ch.ams am)
      (BitVec.ofInt 10 ((o.phase.toNat / 1024 : Nat) +
        ((modsOf ops ch.alg k).map fun m => (ch.outputs ops am).getD m 0).sum / 2 + ch.feedback k)))

/-- R190, R194, R196 (a), and the part of R236 that concerns one channel. The channel sample is the unclamped sum
over the carriers and fits its register; the feedback history shifts at every sample; a channel all of whose
operators are disabled puts out 0 and fills its history with 0. A SAMPLETICK evaluates every channel from its old
phases and envelopes and the old amplitude-LFO output, steps each phase by the operator's increment and its LFO
delta, then steps each envelope with the channel's key code, and changes nothing else in the channel. -/
def Obligations.ChannelSampleAndHistory : Prop :=
  (∀ (ch : Channel) (ops : Config.OperatorCount) (am : Nat),
    (ch.eval ops am).chout.toInt =
        ((carriersOf ops ch.alg).map fun m => (ch.outputs ops am).getD m 0).sum ∧
      Within 16384 (ch.eval ops am).chout.toInt ∧
      (ch.eval ops am).fbh2 = ch.fbh1 ∧
      (ch.eval ops am).fbh1.toInt = (ch.outputs ops am).getD 0 0 ∧
      Within 4096 (ch.eval ops am).fbh1.toInt) ∧
  (∀ (ch : Channel) (ops : Config.OperatorCount) (am : Nat), (∀ o ∈ ch.ops, o.enable = false) →
    (ch.eval ops am).chout = 0 ∧ (ch.eval ops am).fbh1 = 0) ∧
  ∀ (s : State) (c : Nat) (ch : Channel), s.chan? c = some ch →
    (sampleTick s).chan? c = some
      { ch with
        chout := (ch.eval s.cfg.ops s.amOut).chout
        fbh1 := (ch.eval s.cfg.ops s.amOut).fbh1
        fbh2 := (ch.eval s.cfg.ops s.amOut).fbh2
        ops := ch.ops.map fun o =>
          (o.phaseStep (pmDelta o.inc s.pmOut ch.pms)).egStep ch.kcode }

/-- R238, R241: the two mixes are the unclamped sums over the channels panned to that side, and each output is the
volume stage of its mix, within the range of R241. -/
def Obligations.OutputsAreThePannedMix : Prop :=
  ∀ s : State, s.ch.length ≤ 8 →
    let chs := (sampleTick s).ch
    let left := (chs.map fun ch => if ch.pan = 2 ∨ ch.pan = 3 then ch.chout.toInt else 0).sum
    let right := (chs.map fun ch => if ch.pan = 1 ∨ ch.pan = 3 then ch.chout.toInt else 0).sum
    Within 131072 left ∧ Within 131072 right ∧
    (sampleTick s).outL.toInt = volumeStage s.vol left ∧
    (sampleTick s).outR.toInt = volumeStage s.vol right ∧
    Within 131072 (sampleTick s).outL.toInt ∧ Within 131072 (sampleTick s).outR.toInt

/-- R239: the volume stage and its consequences (a) to (e), for every mix the block can produce. -/
def Obligations.VolumeStageConsequences : Prop :=
  (∀ (vol : BitVec 12) (m : Int),
    volumeStage vol m = logToLinear (linearToLog m + 2 * vol.toNat) 0 ∧
    (∃ a, (volumeStage vol m).natAbs = linMag a) ∧
    (m.natAbs ≤ 3 → volumeStage vol m = 0) ∧
    (volumeStage vol m ≠ 0 → (0 < volumeStage vol m ↔ 0 < m)) ∧
    (4095 < linearToLog m / 2 + vol.toNat → volumeStage vol m = 0)) ∧
  ∀ m : Int, Within 131072 m →
    (volumeStage 0 m).natAbs ≤ m.natAbs ∧
    (∀ a, linMag a ≤ m.natAbs → linMag a ≤ (volumeStage 0 m).natAbs) ∧
    (64 ≤ m.natAbs → (m.natAbs - (volumeStage 0 m).natAbs) * 10000 < 28 * m.natAbs) ∧
    volumeStage 0 (volumeStage 0 m) = volumeStage 0 m

/-- R173, R171, R172: the LFO counters run freely: every SAMPLETICK, whatever the state, advances each by 16 times its
selector, modulo 2^22; no chip clock touches them, whatever command it accepts, a key-on included; so with nothing
queued `n` samples advance each by `n` times as much, and a selector of 0 freezes it. -/
def Obligations.LfoCountersRunFreely : Prop :=
  (∀ s : State,
    (sampleTick s).lfoAmCnt.toNat = (s.lfoAmCnt.toNat + 16 * s.lfoAmFreq.toNat) % 4194304 ∧
    (sampleTick s).lfoPmCnt.toNat = (s.lfoPmCnt.toNat + 16 * s.lfoPmFreq.toNat) % 4194304) ∧
  (∀ s : State, (subtick s).lfoAmCnt = s.lfoAmCnt ∧ (subtick s).lfoPmCnt = s.lfoPmCnt) ∧
  (∀ (s : State) (n : Nat), s.ready = true → s.queue = [] → ∃ t, exec (.generate n) s = .next t ∧
    t.lfoAmCnt.toNat = (s.lfoAmCnt.toNat + n * (16 * s.lfoAmFreq.toNat)) % 4194304 ∧
    t.lfoPmCnt.toNat = (s.lfoPmCnt.toNat + n * (16 * s.lfoPmFreq.toNat)) % 4194304) ∧
  ∀ s : State, s.amOut = amTab s.lfoAmWave (BitVec.ofNat 5 (s.lfoAmCnt.toNat / 131072)) ∧
    s.pmOut = pmTab s.lfoPmWave (BitVec.ofNat 5 (s.lfoPmCnt.toNat / 131072))

/-! ## Invariants -/

/-- R45, R43: the envelope invariants survive every instruction and every step, from every state that meets them. -/
def Obligations.EnvelopeInvariantKept : Prop :=
  (∀ (i : Instr) (s t : State), s.EnvelopeInv → exec i s = .next t → t.EnvelopeInv) ∧
  (∀ s t : State, s.EnvelopeInv → step s = .next t → t.EnvelopeInv) ∧
  ∀ m : EgMode, m.code.toNat ≤ 5

/-- R36, R20: the channel invariants and the layout of the records survive every instruction and every step. -/
def Obligations.ChannelInvariantKept : Prop :=
  (∀ (i : Instr) (s t : State), s.ChannelInv → exec i s = .next t → t.ChannelInv) ∧
  ∀ s t : State, s.ChannelInv → step s = .next t → t.ChannelInv

/-- R34, R35, R241: the ranges of the feedback history, the channel samples and the outputs survive every instruction
and every step of a legal instance. -/
def Obligations.SampleRangesKept : Prop :=
  (∀ (i : Instr) (s t : State), s.RangeInv → exec i s = .next t → t.RangeInv) ∧
  ∀ s t : State, s.RangeInv → step s = .next t → t.RangeInv

/-- R32, R39, R127: in every state the cached increment of every operator is that of its channel's active frequency
and of its own multiple and detune; every instruction and every step keep this. -/
def Obligations.IncrementInvariantKept : Prop :=
  (∀ (i : Instr) (s t : State), s.IncrementInv → exec i s = .next t → t.IncrementInv) ∧
  ∀ s t : State, s.IncrementInv → step s = .next t → t.IncrementInv

/-- R26, R27, R123: the divider's remainder stays below the divisor, which is never 0, and `CPS` stays the truncated
ratio of the clocks; every instruction and every step keep this. -/
def Obligations.ClockInvariantKept : Prop :=
  (∀ (i : Instr) (s t : State), s.ClockInv → exec i s = .next t → t.ClockInv) ∧
  ∀ s t : State, s.ClockInv → step s = .next t → t.ClockInv

/-- R52, R301: the invariants hold right after every legal `reset` of every instance, and at the model's reset state,
whose instance and arguments are the model's choice (log entry 1). -/
def Obligations.ResetMeetsTheInvariants : Prop :=
  (∀ (cfg : Config.Params) (script : List HostCall) (clk rate : Nat), resetLegal clk rate →
    (State.afterReset cfg script clk rate).EnvelopeInv ∧
    (State.afterReset cfg script clk rate).ChannelInv ∧
    (cfg.Legal → (State.afterReset cfg script clk rate).RangeInv) ∧
    (State.afterReset cfg script clk rate).IncrementInv ∧
    (State.afterReset cfg script clk rate).ClockInv) ∧
  State.reset.EnvelopeInv ∧ State.reset.ChannelInv ∧ State.reset.RangeInv ∧
  State.reset.IncrementInv ∧ State.reset.ClockInv

/-- R236: channels do not interact. Two states that differ in the other channels and in the output pair alone still
agree on this channel after any number of samples, whatever is queued. -/
def Obligations.ChannelsDoNotInteract : Prop :=
  ∀ (s s' : State) (c n : Nat), AgreeOnChannel c s s' → s.ready = true → ∃ t t',
    exec (.generate n) s = .next t ∧ exec (.generate n) s' = .next t' ∧ t.chan? c = t'.chan? c ∧
    t.busyCnt = t'.busyCnt ∧ t.queue = t'.queue ∧ t.lfoAmCnt = t'.lfoAmCnt ∧ t.lfoPmCnt = t'.lfoPmCnt
end

