-- ==== Sys2Proof/Laws/Decode.lean ====
section
/-!
SUPPORT. What the decoder's shared operations can do: the readers of operands on the sources the reference map
uses, and the commands that decoding can give, whatever the map.
-/

namespace Sys2Proof

/-! ## Operands -/

/-- An operand that is one run of bits is that slice of the entry word (R82). -/
@[simp] theorem readField_slice (lo w : Nat) (e : EntryWord) :
    readField w e [.slice lo w] = e.extractLsb' lo w := by
  apply BitVec.eq_of_toNat_eq
  simp [readField, readBits]

/-- The same, in the reference map's spelling. -/
@[simp] theorem readField_bits (lo w : Nat) (e : EntryWord) :
    readField w e (Config.bits lo w) = e.extractLsb' lo w := readField_slice lo w e

/-- An operand that the map itself gives does not look at the entry word. -/
@[simp] theorem readField_const (w value : Nat) (e : EntryWord) :
    readField w e [.const w value] = BitVec.ofNat w value := by
  apply BitVec.eq_of_toNat_eq
  simp [readField, readBits]

/-- A flag that is one bit of the entry word. -/
@[simp] theorem readFlag_bits (i : Nat) (e : EntryWord) :
    readFlag e (Config.bits i 1) = e.getLsbD i := by
  simp [readFlag]

/-- The WAIT count of the reference map, "`V[7:0]` = N[7:0]; `A[15:0]` = N[23:8]", is `E[23:0]` (R84, R267). -/
@[simp] theorem readField_waitCount (e : EntryWord) :
    readField 24 e [.slice 0 8, .slice 8 16] = e.extractLsb' 0 24 := by
  apply BitVec.eq_of_toNat_eq
  simp [readField, readBits, BitVec.extractLsb'_toNat, Nat.shiftRight_eq_div_pow]
  omega

/-! ## Commands -/

/-- What a template gives is a queue command, never a host operation. -/
theorem templateCommand_isQueueCommand (p : Config.Params) (e : EntryWord) (t : Config.Template) :
    (templateCommand p e t).isQueueCommand = true := by
  cases t <;> simp only [templateCommand, ifChannel, ifOperator] <;> (try split) <;> rfl

/-- Decoding an entry is total: under every map it gives a queue command. -/
theorem decodeEntry_isQueueCommand (p : Config.Params) (e : EntryWord) :
    (decodeEntry p e).isQueueCommand = true := by
  unfold decodeEntry
  split
  · exact templateCommand_isQueueCommand p e _
  · rfl

end Sys2Proof
end

