-- ==== Sys2Proof/Laws/State.lean ====
section
/-!
SUPPORT. One lemma per field per update of a record, each true by `rfl`: no later proof unfolds a record update.
-/

namespace Sys2Proof.Machine

/-! ## The scheduler's bookkeeping and the host's reply -/

@[simp] theorem State.setBusy_cfg (s : State) (d : BitVec 24) :
    (s.setBusy d).cfg = s.cfg := rfl
@[simp] theorem State.setBusy_ready (s : State) (d : BitVec 24) :
    (s.setBusy d).ready = s.ready := rfl
@[simp] theorem State.setBusy_clkNum (s : State) (d : BitVec 24) :
    (s.setBusy d).clkNum = s.clkNum := rfl
@[simp] theorem State.setBusy_clkDen (s : State) (d : BitVec 24) :
    (s.setBusy d).clkDen = s.clkDen := rfl
@[simp] theorem State.setBusy_cps (s : State) (d : BitVec 24) :
    (s.setBusy d).cps = s.cps := rfl
@[simp] theorem State.setBusy_clkAcc (s : State) (d : BitVec 24) :
    (s.setBusy d).clkAcc = s.clkAcc := rfl
@[simp] theorem State.setBusy_queue (s : State) (d : BitVec 24) :
    (s.setBusy d).queue = s.queue := rfl
@[simp] theorem State.setBusy_busyCnt (s : State) (d : BitVec 24) :
    (s.setBusy d).busyCnt = d := rfl
@[simp] theorem State.setBusy_vol (s : State) (d : BitVec 24) :
    (s.setBusy d).vol = s.vol := rfl
@[simp] theorem State.setBusy_lfoAmFreq (s : State) (d : BitVec 24) :
    (s.setBusy d).lfoAmFreq = s.lfoAmFreq := rfl
@[simp] theorem State.setBusy_lfoPmFreq (s : State) (d : BitVec 24) :
    (s.setBusy d).lfoPmFreq = s.lfoPmFreq := rfl
@[simp] theorem State.setBusy_lfoAmWave (s : State) (d : BitVec 24) :
    (s.setBusy d).lfoAmWave = s.lfoAmWave := rfl
@[simp] theorem State.setBusy_lfoPmWave (s : State) (d : BitVec 24) :
    (s.setBusy d).lfoPmWave = s.lfoPmWave := rfl
@[simp] theorem State.setBusy_lfoAmCnt (s : State) (d : BitVec 24) :
    (s.setBusy d).lfoAmCnt = s.lfoAmCnt := rfl
@[simp] theorem State.setBusy_lfoPmCnt (s : State) (d : BitVec 24) :
    (s.setBusy d).lfoPmCnt = s.lfoPmCnt := rfl
@[simp] theorem State.setBusy_outL (s : State) (d : BitVec 24) :
    (s.setBusy d).outL = s.outL := rfl
@[simp] theorem State.setBusy_outR (s : State) (d : BitVec 24) :
    (s.setBusy d).outR = s.outR := rfl
@[simp] theorem State.setBusy_ch (s : State) (d : BitVec 24) :
    (s.setBusy d).ch = s.ch := rfl
@[simp] theorem State.setBusy_script (s : State) (d : BitVec 24) :
    (s.setBusy d).script = s.script := rfl
@[simp] theorem State.setBusy_reply (s : State) (d : BitVec 24) :
    (s.setBusy d).reply = s.reply := rfl

@[simp] theorem State.setBusyWrite_cfg (s : State) :
    s.setBusyWrite.cfg = s.cfg := rfl
@[simp] theorem State.setBusyWrite_ready (s : State) :
    s.setBusyWrite.ready = s.ready := rfl
@[simp] theorem State.setBusyWrite_clkNum (s : State) :
    s.setBusyWrite.clkNum = s.clkNum := rfl
@[simp] theorem State.setBusyWrite_clkDen (s : State) :
    s.setBusyWrite.clkDen = s.clkDen := rfl
@[simp] theorem State.setBusyWrite_cps (s : State) :
    s.setBusyWrite.cps = s.cps := rfl
@[simp] theorem State.setBusyWrite_clkAcc (s : State) :
    s.setBusyWrite.clkAcc = s.clkAcc := rfl
@[simp] theorem State.setBusyWrite_queue (s : State) :
    s.setBusyWrite.queue = s.queue := rfl
@[simp] theorem State.setBusyWrite_busyCnt (s : State) :
    s.setBusyWrite.busyCnt = s.cfg.busyWrite := rfl
@[simp] theorem State.setBusyWrite_vol (s : State) :
    s.setBusyWrite.vol = s.vol := rfl
@[simp] theorem State.setBusyWrite_lfoAmFreq (s : State) :
    s.setBusyWrite.lfoAmFreq = s.lfoAmFreq := rfl
@[simp] theorem State.setBusyWrite_lfoPmFreq (s : State) :
    s.setBusyWrite.lfoPmFreq = s.lfoPmFreq := rfl
@[simp] theorem State.setBusyWrite_lfoAmWave (s : State) :
    s.setBusyWrite.lfoAmWave = s.lfoAmWave := rfl
@[simp] theorem State.setBusyWrite_lfoPmWave (s : State) :
    s.setBusyWrite.lfoPmWave = s.lfoPmWave := rfl
@[simp] theorem State.setBusyWrite_lfoAmCnt (s : State) :
    s.setBusyWrite.lfoAmCnt = s.lfoAmCnt := rfl
@[simp] theorem State.setBusyWrite_lfoPmCnt (s : State) :
    s.setBusyWrite.lfoPmCnt = s.lfoPmCnt := rfl
@[simp] theorem State.setBusyWrite_outL (s : State) :
    s.setBusyWrite.outL = s.outL := rfl
@[simp] theorem State.setBusyWrite_outR (s : State) :
    s.setBusyWrite.outR = s.outR := rfl
@[simp] theorem State.setBusyWrite_ch (s : State) :
    s.setBusyWrite.ch = s.ch := rfl
@[simp] theorem State.setBusyWrite_script (s : State) :
    s.setBusyWrite.script = s.script := rfl
@[simp] theorem State.setBusyWrite_reply (s : State) :
    s.setBusyWrite.reply = s.reply := rfl

@[simp] theorem State.enqueue_cfg (s : State) (e : Entry) :
    (s.enqueue e).cfg = s.cfg := rfl
@[simp] theorem State.enqueue_ready (s : State) (e : Entry) :
    (s.enqueue e).ready = s.ready := rfl
@[simp] theorem State.enqueue_clkNum (s : State) (e : Entry) :
    (s.enqueue e).clkNum = s.clkNum := rfl
@[simp] theorem State.enqueue_clkDen (s : State) (e : Entry) :
    (s.enqueue e).clkDen = s.clkDen := rfl
@[simp] theorem State.enqueue_cps (s : State) (e : Entry) :
    (s.enqueue e).cps = s.cps := rfl
@[simp] theorem State.enqueue_clkAcc (s : State) (e : Entry) :
    (s.enqueue e).clkAcc = s.clkAcc := rfl
@[simp] theorem State.enqueue_queue (s : State) (e : Entry) :
    (s.enqueue e).queue = s.queue ++ [e] := rfl
@[simp] theorem State.enqueue_busyCnt (s : State) (e : Entry) :
    (s.enqueue e).busyCnt = s.busyCnt := rfl
@[simp] theorem State.enqueue_vol (s : State) (e : Entry) :
    (s.enqueue e).vol = s.vol := rfl
@[simp] theorem State.enqueue_lfoAmFreq (s : State) (e : Entry) :
    (s.enqueue e).lfoAmFreq = s.lfoAmFreq := rfl
@[simp] theorem State.enqueue_lfoPmFreq (s : State) (e : Entry) :
    (s.enqueue e).lfoPmFreq = s.lfoPmFreq := rfl
@[simp] theorem State.enqueue_lfoAmWave (s : State) (e : Entry) :
    (s.enqueue e).lfoAmWave = s.lfoAmWave := rfl
@[simp] theorem State.enqueue_lfoPmWave (s : State) (e : Entry) :
    (s.enqueue e).lfoPmWave = s.lfoPmWave := rfl
@[simp] theorem State.enqueue_lfoAmCnt (s : State) (e : Entry) :
    (s.enqueue e).lfoAmCnt = s.lfoAmCnt := rfl
@[simp] theorem State.enqueue_lfoPmCnt (s : State) (e : Entry) :
    (s.enqueue e).lfoPmCnt = s.lfoPmCnt := rfl
@[simp] theorem State.enqueue_outL (s : State) (e : Entry) :
    (s.enqueue e).outL = s.outL := rfl
@[simp] theorem State.enqueue_outR (s : State) (e : Entry) :
    (s.enqueue e).outR = s.outR := rfl
@[simp] theorem State.enqueue_ch (s : State) (e : Entry) :
    (s.enqueue e).ch = s.ch := rfl
@[simp] theorem State.enqueue_script (s : State) (e : Entry) :
    (s.enqueue e).script = s.script := rfl
@[simp] theorem State.enqueue_reply (s : State) (e : Entry) :
    (s.enqueue e).reply = s.reply := rfl

@[simp] theorem State.withReply_cfg (s : State) (r : Reply) :
    (s.withReply r).cfg = s.cfg := rfl
@[simp] theorem State.withReply_ready (s : State) (r : Reply) :
    (s.withReply r).ready = s.ready := rfl
@[simp] theorem State.withReply_clkNum (s : State) (r : Reply) :
    (s.withReply r).clkNum = s.clkNum := rfl
@[simp] theorem State.withReply_clkDen (s : State) (r : Reply) :
    (s.withReply r).clkDen = s.clkDen := rfl
@[simp] theorem State.withReply_cps (s : State) (r : Reply) :
    (s.withReply r).cps = s.cps := rfl
@[simp] theorem State.withReply_clkAcc (s : State) (r : Reply) :
    (s.withReply r).clkAcc = s.clkAcc := rfl
@[simp] theorem State.withReply_queue (s : State) (r : Reply) :
    (s.withReply r).queue = s.queue := rfl
@[simp] theorem State.withReply_busyCnt (s : State) (r : Reply) :
    (s.withReply r).busyCnt = s.busyCnt := rfl
@[simp] theorem State.withReply_vol (s : State) (r : Reply) :
    (s.withReply r).vol = s.vol := rfl
@[simp] theorem State.withReply_lfoAmFreq (s : State) (r : Reply) :
    (s.withReply r).lfoAmFreq = s.lfoAmFreq := rfl
@[simp] theorem State.withReply_lfoPmFreq (s : State) (r : Reply) :
    (s.withReply r).lfoPmFreq = s.lfoPmFreq := rfl
@[simp] theorem State.withReply_lfoAmWave (s : State) (r : Reply) :
    (s.withReply r).lfoAmWave = s.lfoAmWave := rfl
@[simp] theorem State.withReply_lfoPmWave (s : State) (r : Reply) :
    (s.withReply r).lfoPmWave = s.lfoPmWave := rfl
@[simp] theorem State.withReply_lfoAmCnt (s : State) (r : Reply) :
    (s.withReply r).lfoAmCnt = s.lfoAmCnt := rfl
@[simp] theorem State.withReply_lfoPmCnt (s : State) (r : Reply) :
    (s.withReply r).lfoPmCnt = s.lfoPmCnt := rfl
@[simp] theorem State.withReply_outL (s : State) (r : Reply) :
    (s.withReply r).outL = s.outL := rfl
@[simp] theorem State.withReply_outR (s : State) (r : Reply) :
    (s.withReply r).outR = s.outR := rfl
@[simp] theorem State.withReply_ch (s : State) (r : Reply) :
    (s.withReply r).ch = s.ch := rfl
@[simp] theorem State.withReply_script (s : State) (r : Reply) :
    (s.withReply r).script = s.script := rfl
@[simp] theorem State.withReply_reply (s : State) (r : Reply) :
    (s.withReply r).reply = r := rfl

@[simp] theorem State.countDown_cfg (s : State) :
    s.countDown.cfg = s.cfg := rfl
@[simp] theorem State.countDown_ready (s : State) :
    s.countDown.ready = s.ready := rfl
@[simp] theorem State.countDown_clkNum (s : State) :
    s.countDown.clkNum = s.clkNum := rfl
@[simp] theorem State.countDown_clkDen (s : State) :
    s.countDown.clkDen = s.clkDen := rfl
@[simp] theorem State.countDown_cps (s : State) :
    s.countDown.cps = s.cps := rfl
@[simp] theorem State.countDown_clkAcc (s : State) :
    s.countDown.clkAcc = s.clkAcc := rfl
@[simp] theorem State.countDown_queue (s : State) :
    s.countDown.queue = s.queue := rfl
@[simp] theorem State.countDown_busyCnt (s : State) :
    s.countDown.busyCnt = if s.busyCnt = 0 then 0 else s.busyCnt - 1 := rfl
@[simp] theorem State.countDown_vol (s : State) :
    s.countDown.vol = s.vol := rfl
@[simp] theorem State.countDown_lfoAmFreq (s : State) :
    s.countDown.lfoAmFreq = s.lfoAmFreq := rfl
@[simp] theorem State.countDown_lfoPmFreq (s : State) :
    s.countDown.lfoPmFreq = s.lfoPmFreq := rfl
@[simp] theorem State.countDown_lfoAmWave (s : State) :
    s.countDown.lfoAmWave = s.lfoAmWave := rfl
@[simp] theorem State.countDown_lfoPmWave (s : State) :
    s.countDown.lfoPmWave = s.lfoPmWave := rfl
@[simp] theorem State.countDown_lfoAmCnt (s : State) :
    s.countDown.lfoAmCnt = s.lfoAmCnt := rfl
@[simp] theorem State.countDown_lfoPmCnt (s : State) :
    s.countDown.lfoPmCnt = s.lfoPmCnt := rfl
@[simp] theorem State.countDown_outL (s : State) :
    s.countDown.outL = s.outL := rfl
@[simp] theorem State.countDown_outR (s : State) :
    s.countDown.outR = s.outR := rfl
@[simp] theorem State.countDown_ch (s : State) :
    s.countDown.ch = s.ch := rfl
@[simp] theorem State.countDown_script (s : State) :
    s.countDown.script = s.script := rfl
@[simp] theorem State.countDown_reply (s : State) :
    s.countDown.reply = s.reply := rfl

/-! ## Updates of one channel or one operator -/

@[simp] theorem State.updChan_cfg (s : State) (c : Nat) (f : Channel → Channel) :
    (s.updChan c f).cfg = s.cfg := rfl
@[simp] theorem State.updChan_ready (s : State) (c : Nat) (f : Channel → Channel) :
    (s.updChan c f).ready = s.ready := rfl
@[simp] theorem State.updChan_clkNum (s : State) (c : Nat) (f : Channel → Channel) :
    (s.updChan c f).clkNum = s.clkNum := rfl
@[simp] theorem State.updChan_clkDen (s : State) (c : Nat) (f : Channel → Channel) :
    (s.updChan c f).clkDen = s.clkDen := rfl
@[simp] theorem State.updChan_cps (s : State) (c : Nat) (f : Channel → Channel) :
    (s.updChan c f).cps = s.cps := rfl
@[simp] theorem State.updChan_clkAcc (s : State) (c : Nat) (f : Channel → Channel) :
    (s.updChan c f).clkAcc = s.clkAcc := rfl
@[simp] theorem State.updChan_queue (s : State) (c : Nat) (f : Channel → Channel) :
    (s.updChan c f).queue = s.queue := rfl
@[simp] theorem State.updChan_busyCnt (s : State) (c : Nat) (f : Channel → Channel) :
    (s.updChan c f).busyCnt = s.busyCnt := rfl
@[simp] theorem State.updChan_vol (s : State) (c : Nat) (f : Channel → Channel) :
    (s.updChan c f).vol = s.vol := rfl
@[simp] theorem State.updChan_lfoAmFreq (s : State) (c : Nat) (f : Channel → Channel) :
    (s.updChan c f).lfoAmFreq = s.lfoAmFreq := rfl
@[simp] theorem State.updChan_lfoPmFreq (s : State) (c : Nat) (f : Channel → Channel) :
    (s.updChan c f).lfoPmFreq = s.lfoPmFreq := rfl
@[simp] theorem State.updChan_lfoAmWave (s : State) (c : Nat) (f : Channel → Channel) :
    (s.updChan c f).lfoAmWave = s.lfoAmWave := rfl
@[simp] theorem State.updChan_lfoPmWave (s : State) (c : Nat) (f : Channel → Channel) :
    (s.updChan c f).lfoPmWave = s.lfoPmWave := rfl
@[simp] theorem State.updChan_lfoAmCnt (s : State) (c : Nat) (f : Channel → Channel) :
    (s.updChan c f).lfoAmCnt = s.lfoAmCnt := rfl
@[simp] theorem State.updChan_lfoPmCnt (s : State) (c : Nat) (f : Channel → Channel) :
    (s.updChan c f).lfoPmCnt = s.lfoPmCnt := rfl
@[simp] theorem State.updChan_outL (s : State) (c : Nat) (f : Channel → Channel) :
    (s.updChan c f).outL = s.outL := rfl
@[simp] theorem State.updChan_outR (s : State) (c : Nat) (f : Channel → Channel) :
    (s.updChan c f).outR = s.outR := rfl
@[simp] theorem State.updChan_ch (s : State) (c : Nat) (f : Channel → Channel) :
    (s.updChan c f).ch = if c < s.cfg.nch then s.ch.modify c f else s.ch := rfl
@[simp] theorem State.updChan_script (s : State) (c : Nat) (f : Channel → Channel) :
    (s.updChan c f).script = s.script := rfl
@[simp] theorem State.updChan_reply (s : State) (c : Nat) (f : Channel → Channel) :
    (s.updChan c f).reply = s.reply := rfl

@[simp] theorem State.updOper_cfg (s : State) (c k : Nat) (f : Operator → Operator) :
    (s.updOper c k f).cfg = s.cfg := rfl
@[simp] theorem State.updOper_ready (s : State) (c k : Nat) (f : Operator → Operator) :
    (s.updOper c k f).ready = s.ready := rfl
@[simp] theorem State.updOper_clkNum (s : State) (c k : Nat) (f : Operator → Operator) :
    (s.updOper c k f).clkNum = s.clkNum := rfl
@[simp] theorem State.updOper_clkDen (s : State) (c k : Nat) (f : Operator → Operator) :
    (s.updOper c k f).clkDen = s.clkDen := rfl
@[simp] theorem State.updOper_cps (s : State) (c k : Nat) (f : Operator → Operator) :
    (s.updOper c k f).cps = s.cps := rfl
@[simp] theorem State.updOper_clkAcc (s : State) (c k : Nat) (f : Operator → Operator) :
    (s.updOper c k f).clkAcc = s.clkAcc := rfl
@[simp] theorem State.updOper_queue (s : State) (c k : Nat) (f : Operator → Operator) :
    (s.updOper c k f).queue = s.queue := rfl
@[simp] theorem State.updOper_busyCnt (s : State) (c k : Nat) (f : Operator → Operator) :
    (s.updOper c k f).busyCnt = s.busyCnt := rfl
@[simp] theorem State.updOper_vol (s : State) (c k : Nat) (f : Operator → Operator) :
    (s.updOper c k f).vol = s.vol := rfl
@[simp] theorem State.updOper_lfoAmFreq (s : State) (c k : Nat) (f : Operator → Operator) :
    (s.updOper c k f).lfoAmFreq = s.lfoAmFreq := rfl
@[simp] theorem State.updOper_lfoPmFreq (s : State) (c k : Nat) (f : Operator → Operator) :
    (s.updOper c k f).lfoPmFreq = s.lfoPmFreq := rfl
@[simp] theorem State.updOper_lfoAmWave (s : State) (c k : Nat) (f : Operator → Operator) :
    (s.updOper c k f).lfoAmWave = s.lfoAmWave := rfl
@[simp] theorem State.updOper_lfoPmWave (s : State) (c k : Nat) (f : Operator → Operator) :
    (s.updOper c k f).lfoPmWave = s.lfoPmWave := rfl
@[simp] theorem State.updOper_lfoAmCnt (s : State) (c k : Nat) (f : Operator → Operator) :
    (s.updOper c k f).lfoAmCnt = s.lfoAmCnt := rfl
@[simp] theorem State.updOper_lfoPmCnt (s : State) (c k : Nat) (f : Operator → Operator) :
    (s.updOper c k f).lfoPmCnt = s.lfoPmCnt := rfl
@[simp] theorem State.updOper_outL (s : State) (c k : Nat) (f : Operator → Operator) :
    (s.updOper c k f).outL = s.outL := rfl
@[simp] theorem State.updOper_outR (s : State) (c k : Nat) (f : Operator → Operator) :
    (s.updOper c k f).outR = s.outR := rfl
@[simp] theorem State.updOper_script (s : State) (c k : Nat) (f : Operator → Operator) :
    (s.updOper c k f).script = s.script := rfl
@[simp] theorem State.updOper_reply (s : State) (c k : Nat) (f : Operator → Operator) :
    (s.updOper c k f).reply = s.reply := rfl

@[simp] theorem Channel.updOper_floLatch (ch : Channel) (k : Nat) (f : Operator → Operator) :
    (ch.updOper k f).floLatch = ch.floLatch := rfl
@[simp] theorem Channel.updOper_fhiLatch (ch : Channel) (k : Nat) (f : Operator → Operator) :
    (ch.updOper k f).fhiLatch = ch.fhiLatch := rfl
@[simp] theorem Channel.updOper_loLanded (ch : Channel) (k : Nat) (f : Operator → Operator) :
    (ch.updOper k f).loLanded = ch.loLanded := rfl
@[simp] theorem Channel.updOper_hiLanded (ch : Channel) (k : Nat) (f : Operator → Operator) :
    (ch.updOper k f).hiLanded = ch.hiLanded := rfl
@[simp] theorem Channel.updOper_fnum (ch : Channel) (k : Nat) (f : Operator → Operator) :
    (ch.updOper k f).fnum = ch.fnum := rfl
@[simp] theorem Channel.updOper_block (ch : Channel) (k : Nat) (f : Operator → Operator) :
    (ch.updOper k f).block = ch.block := rfl
@[simp] theorem Channel.updOper_kcode (ch : Channel) (k : Nat) (f : Operator → Operator) :
    (ch.updOper k f).kcode = ch.kcode := rfl
@[simp] theorem Channel.updOper_alg (ch : Channel) (k : Nat) (f : Operator → Operator) :
    (ch.updOper k f).alg = ch.alg := rfl
@[simp] theorem Channel.updOper_fb (ch : Channel) (k : Nat) (f : Operator → Operator) :
    (ch.updOper k f).fb = ch.fb := rfl
@[simp] theorem Channel.updOper_pan (ch : Channel) (k : Nat) (f : Operator → Operator) :
    (ch.updOper k f).pan = ch.pan := rfl
@[simp] theorem Channel.updOper_ams (ch : Channel) (k : Nat) (f : Operator → Operator) :
    (ch.updOper k f).ams = ch.ams := rfl
@[simp] theorem Channel.updOper_pms (ch : Channel) (k : Nat) (f : Operator → Operator) :
    (ch.updOper k f).pms = ch.pms := rfl
@[simp] theorem Channel.updOper_keyLatch (ch : Channel) (k : Nat) (f : Operator → Operator) :
    (ch.updOper k f).keyLatch = ch.keyLatch := rfl
@[simp] theorem Channel.updOper_fbh1 (ch : Channel) (k : Nat) (f : Operator → Operator) :
    (ch.updOper k f).fbh1 = ch.fbh1 := rfl
@[simp] theorem Channel.updOper_fbh2 (ch : Channel) (k : Nat) (f : Operator → Operator) :
    (ch.updOper k f).fbh2 = ch.fbh2 := rfl
@[simp] theorem Channel.updOper_chout (ch : Channel) (k : Nat) (f : Operator → Operator) :
    (ch.updOper k f).chout = ch.chout := rfl
@[simp] theorem Channel.updOper_ops (ch : Channel) (k : Nat) (f : Operator → Operator) :
    (ch.updOper k f).ops = ch.ops.modify k f := rfl

/-! ## Retune, key-on, key-off -/

@[simp] theorem recomputeInc_mul (cps : BitVec 24) (fnum : BitVec 11) (block : BitVec 3) (o : Operator) :
    (recomputeInc cps fnum block o).mul = o.mul := rfl
@[simp] theorem recomputeInc_dt (cps : BitVec 24) (fnum : BitVec 11) (block : BitVec 3) (o : Operator) :
    (recomputeInc cps fnum block o).dt = o.dt := rfl
@[simp] theorem recomputeInc_tl (cps : BitVec 24) (fnum : BitVec 11) (block : BitVec 3) (o : Operator) :
    (recomputeInc cps fnum block o).tl = o.tl := rfl
@[simp] theorem recomputeInc_ar (cps : BitVec 24) (fnum : BitVec 11) (block : BitVec 3) (o : Operator) :
    (recomputeInc cps fnum block o).ar = o.ar := rfl
@[simp] theorem recomputeInc_dr (cps : BitVec 24) (fnum : BitVec 11) (block : BitVec 3) (o : Operator) :
    (recomputeInc cps fnum block o).dr = o.dr := rfl
@[simp] theorem recomputeInc_sr (cps : BitVec 24) (fnum : BitVec 11) (block : BitVec 3) (o : Operator) :
    (recomputeInc cps fnum block o).sr = o.sr := rfl
@[simp] theorem recomputeInc_rr (cps : BitVec 24) (fnum : BitVec 11) (block : BitVec 3) (o : Operator) :
    (recomputeInc cps fnum block o).rr = o.rr := rfl
@[simp] theorem recomputeInc_sl (cps : BitVec 24) (fnum : BitVec 11) (block : BitVec 3) (o : Operator) :
    (recomputeInc cps fnum block o).sl = o.sl := rfl
@[simp] theorem recomputeInc_ks (cps : BitVec 24) (fnum : BitVec 11) (block : BitVec 3) (o : Operator) :
    (recomputeInc cps fnum block o).ks = o.ks := rfl
@[simp] theorem recomputeInc_ssg (cps : BitVec 24) (fnum : BitVec 11) (block : BitVec 3) (o : Operator) :
    (recomputeInc cps fnum block o).ssg = o.ssg := rfl
@[simp] theorem recomputeInc_egtHold (cps : BitVec 24) (fnum : BitVec 11) (block : BitVec 3) (o : Operator) :
    (recomputeInc cps fnum block o).egtHold = o.egtHold := rfl
@[simp] theorem recomputeInc_egtIgnk (cps : BitVec 24) (fnum : BitVec 11) (block : BitVec 3) (o : Operator) :
    (recomputeInc cps fnum block o).egtIgnk = o.egtIgnk := rfl
@[simp] theorem recomputeInc_phase (cps : BitVec 24) (fnum : BitVec 11) (block : BitVec 3) (o : Operator) :
    (recomputeInc cps fnum block o).phase = o.phase := rfl
@[simp] theorem recomputeInc_inc (cps : BitVec 24) (fnum : BitVec 11) (block : BitVec 3) (o : Operator) :
    (recomputeInc cps fnum block o).inc = incOf cps fnum block o.mul o.dt := rfl
@[simp] theorem recomputeInc_egMode (cps : BitVec 24) (fnum : BitVec 11) (block : BitVec 3) (o : Operator) :
    (recomputeInc cps fnum block o).egMode = o.egMode := rfl
@[simp] theorem recomputeInc_egLevel (cps : BitVec 24) (fnum : BitVec 11) (block : BitVec 3) (o : Operator) :
    (recomputeInc cps fnum block o).egLevel = o.egLevel := rfl
@[simp] theorem recomputeInc_egAcc (cps : BitVec 24) (fnum : BitVec 11) (block : BitVec 3) (o : Operator) :
    (recomputeInc cps fnum block o).egAcc = o.egAcc := rfl
@[simp] theorem recomputeInc_egAtkPos (cps : BitVec 24) (fnum : BitVec 11) (block : BitVec 3) (o : Operator) :
    (recomputeInc cps fnum block o).egAtkPos = o.egAtkPos := rfl
@[simp] theorem recomputeInc_enable (cps : BitVec 24) (fnum : BitVec 11) (block : BitVec 3) (o : Operator) :
    (recomputeInc cps fnum block o).enable = o.enable := rfl

@[simp] theorem Channel.retune_floLatch (cps : BitVec 24) (ch : Channel) :
    (ch.retune cps).floLatch = ch.floLatch := rfl
@[simp] theorem Channel.retune_fhiLatch (cps : BitVec 24) (ch : Channel) :
    (ch.retune cps).fhiLatch = ch.fhiLatch := rfl
@[simp] theorem Channel.retune_loLanded (cps : BitVec 24) (ch : Channel) :
    (ch.retune cps).loLanded = false := rfl
@[simp] theorem Channel.retune_hiLanded (cps : BitVec 24) (ch : Channel) :
    (ch.retune cps).hiLanded = false := rfl
@[simp] theorem Channel.retune_fnum (cps : BitVec 24) (ch : Channel) :
    (ch.retune cps).fnum = fnumOf ch.floLatch ch.fhiLatch := rfl
@[simp] theorem Channel.retune_block (cps : BitVec 24) (ch : Channel) :
    (ch.retune cps).block = blockOf ch.fhiLatch := rfl
@[simp] theorem Channel.retune_kcode (cps : BitVec 24) (ch : Channel) :
    (ch.retune cps).kcode = keyCode (blockOf ch.fhiLatch) (fnumOf ch.floLatch ch.fhiLatch) := rfl
@[simp] theorem Channel.retune_alg (cps : BitVec 24) (ch : Channel) :
    (ch.retune cps).alg = ch.alg := rfl
@[simp] theorem Channel.retune_fb (cps : BitVec 24) (ch : Channel) :
    (ch.retune cps).fb = ch.fb := rfl
@[simp] theorem Channel.retune_pan (cps : BitVec 24) (ch : Channel) :
    (ch.retune cps).pan = ch.pan := rfl
@[simp] theorem Channel.retune_ams (cps : BitVec 24) (ch : Channel) :
    (ch.retune cps).ams = ch.ams := rfl
@[simp] theorem Channel.retune_pms (cps : BitVec 24) (ch : Channel) :
    (ch.retune cps).pms = ch.pms := rfl
@[simp] theorem Channel.retune_keyLatch (cps : BitVec 24) (ch : Channel) :
    (ch.retune cps).keyLatch = ch.keyLatch := rfl
@[simp] theorem Channel.retune_fbh1 (cps : BitVec 24) (ch : Channel) :
    (ch.retune cps).fbh1 = ch.fbh1 := rfl
@[simp] theorem Channel.retune_fbh2 (cps : BitVec 24) (ch : Channel) :
    (ch.retune cps).fbh2 = ch.fbh2 := rfl
@[simp] theorem Channel.retune_chout (cps : BitVec 24) (ch : Channel) :
    (ch.retune cps).chout = ch.chout := rfl
@[simp] theorem Channel.retune_ops (cps : BitVec 24) (ch : Channel) :
    (ch.retune cps).ops = ch.ops.map (recomputeInc cps (fnumOf ch.floLatch ch.fhiLatch) (blockOf ch.fhiLatch)) := rfl

@[simp] theorem Operator.keyOn_mul (o : Operator) :
    o.keyOn.mul = o.mul := rfl
@[simp] theorem Operator.keyOn_dt (o : Operator) :
    o.keyOn.dt = o.dt := rfl
@[simp] theorem Operator.keyOn_tl (o : Operator) :
    o.keyOn.tl = o.tl := rfl
@[simp] theorem Operator.keyOn_ar (o : Operator) :
    o.keyOn.ar = o.ar := rfl
@[simp] theorem Operator.keyOn_dr (o : Operator) :
    o.keyOn.dr = o.dr := rfl
@[simp] theorem Operator.keyOn_sr (o : Operator) :
    o.keyOn.sr = o.sr := rfl
@[simp] theorem Operator.keyOn_rr (o : Operator) :
    o.keyOn.rr = o.rr := rfl
@[simp] theorem Operator.keyOn_sl (o : Operator) :
    o.keyOn.sl = o.sl := rfl
@[simp] theorem Operator.keyOn_ks (o : Operator) :
    o.keyOn.ks = o.ks := rfl
@[simp] theorem Operator.keyOn_ssg (o : Operator) :
    o.keyOn.ssg = o.ssg := rfl
@[simp] theorem Operator.keyOn_egtHold (o : Operator) :
    o.keyOn.egtHold = o.egtHold := rfl
@[simp] theorem Operator.keyOn_egtIgnk (o : Operator) :
    o.keyOn.egtIgnk = o.egtIgnk := rfl
@[simp] theorem Operator.keyOn_phase (o : Operator) :
    o.keyOn.phase = 0 := rfl
@[simp] theorem Operator.keyOn_inc (o : Operator) :
    o.keyOn.inc = o.inc := rfl
@[simp] theorem Operator.keyOn_egMode (o : Operator) :
    o.keyOn.egMode = .attack := rfl
@[simp] theorem Operator.keyOn_egLevel (o : Operator) :
    o.keyOn.egLevel = 1023 := rfl
@[simp] theorem Operator.keyOn_egAcc (o : Operator) :
    o.keyOn.egAcc = 0 := rfl
@[simp] theorem Operator.keyOn_egAtkPos (o : Operator) :
    o.keyOn.egAtkPos = 0 := rfl
@[simp] theorem Operator.keyOn_enable (o : Operator) :
    o.keyOn.enable = true := rfl

@[simp] theorem Channel.keyOn_floLatch (ch : Channel) :
    ch.keyOn.floLatch = ch.floLatch := rfl
@[simp] theorem Channel.keyOn_fhiLatch (ch : Channel) :
    ch.keyOn.fhiLatch = ch.fhiLatch := rfl
@[simp] theorem Channel.keyOn_loLanded (ch : Channel) :
    ch.keyOn.loLanded = ch.loLanded := rfl
@[simp] theorem Channel.keyOn_hiLanded (ch : Channel) :
    ch.keyOn.hiLanded = ch.hiLanded := rfl
@[simp] theorem Channel.keyOn_fnum (ch : Channel) :
    ch.keyOn.fnum = ch.fnum := rfl
@[simp] theorem Channel.keyOn_block (ch : Channel) :
    ch.keyOn.block = ch.block := rfl
@[simp] theorem Channel.keyOn_kcode (ch : Channel) :
    ch.keyOn.kcode = ch.kcode := rfl
@[simp] theorem Channel.keyOn_alg (ch : Channel) :
    ch.keyOn.alg = ch.alg := rfl
@[simp] theorem Channel.keyOn_fb (ch : Channel) :
    ch.keyOn.fb = ch.fb := rfl
@[simp] theorem Channel.keyOn_pan (ch : Channel) :
    ch.keyOn.pan = ch.pan := rfl
@[simp] theorem Channel.keyOn_ams (ch : Channel) :
    ch.keyOn.ams = ch.ams := rfl
@[simp] theorem Channel.keyOn_pms (ch : Channel) :
    ch.keyOn.pms = ch.pms := rfl
@[simp] theorem Channel.keyOn_keyLatch (ch : Channel) :
    ch.keyOn.keyLatch = true := rfl
@[simp] theorem Channel.keyOn_fbh1 (ch : Channel) :
    ch.keyOn.fbh1 = 0 := rfl
@[simp] theorem Channel.keyOn_fbh2 (ch : Channel) :
    ch.keyOn.fbh2 = 0 := rfl
@[simp] theorem Channel.keyOn_chout (ch : Channel) :
    ch.keyOn.chout = ch.chout := rfl
@[simp] theorem Channel.keyOn_ops (ch : Channel) :
    ch.keyOn.ops = ch.ops.map Operator.keyOn := rfl

@[simp] theorem Channel.keyOff_floLatch (ch : Channel) :
    ch.keyOff.floLatch = ch.floLatch := rfl
@[simp] theorem Channel.keyOff_fhiLatch (ch : Channel) :
    ch.keyOff.fhiLatch = ch.fhiLatch := rfl
@[simp] theorem Channel.keyOff_loLanded (ch : Channel) :
    ch.keyOff.loLanded = ch.loLanded := rfl
@[simp] theorem Channel.keyOff_hiLanded (ch : Channel) :
    ch.keyOff.hiLanded = ch.hiLanded := rfl
@[simp] theorem Channel.keyOff_fnum (ch : Channel) :
    ch.keyOff.fnum = ch.fnum := rfl
@[simp] theorem Channel.keyOff_block (ch : Channel) :
    ch.keyOff.block = ch.block := rfl
@[simp] theorem Channel.keyOff_kcode (ch : Channel) :
    ch.keyOff.kcode = ch.kcode := rfl
@[simp] theorem Channel.keyOff_alg (ch : Channel) :
    ch.keyOff.alg = ch.alg := rfl
@[simp] theorem Channel.keyOff_fb (ch : Channel) :
    ch.keyOff.fb = ch.fb := rfl
@[simp] theorem Channel.keyOff_pan (ch : Channel) :
    ch.keyOff.pan = ch.pan := rfl
@[simp] theorem Channel.keyOff_ams (ch : Channel) :
    ch.keyOff.ams = ch.ams := rfl
@[simp] theorem Channel.keyOff_pms (ch : Channel) :
    ch.keyOff.pms = ch.pms := rfl
@[simp] theorem Channel.keyOff_keyLatch (ch : Channel) :
    ch.keyOff.keyLatch = false := rfl
@[simp] theorem Channel.keyOff_fbh1 (ch : Channel) :
    ch.keyOff.fbh1 = ch.fbh1 := rfl
@[simp] theorem Channel.keyOff_fbh2 (ch : Channel) :
    ch.keyOff.fbh2 = ch.fbh2 := rfl
@[simp] theorem Channel.keyOff_chout (ch : Channel) :
    ch.keyOff.chout = ch.chout := rfl
@[simp] theorem Channel.keyOff_ops (ch : Channel) :
    ch.keyOff.ops = ch.ops.map Operator.keyOff := rfl

/-! ## One sample -/

@[simp] theorem Operator.phaseStep_mul (d : Int) (o : Operator) :
    (o.phaseStep d).mul = o.mul := rfl
@[simp] theorem Operator.phaseStep_dt (d : Int) (o : Operator) :
    (o.phaseStep d).dt = o.dt := rfl
@[simp] theorem Operator.phaseStep_tl (d : Int) (o : Operator) :
    (o.phaseStep d).tl = o.tl := rfl
@[simp] theorem Operator.phaseStep_ar (d : Int) (o : Operator) :
    (o.phaseStep d).ar = o.ar := rfl
@[simp] theorem Operator.phaseStep_dr (d : Int) (o : Operator) :
    (o.phaseStep d).dr = o.dr := rfl
@[simp] theorem Operator.phaseStep_sr (d : Int) (o : Operator) :
    (o.phaseStep d).sr = o.sr := rfl
@[simp] theorem Operator.phaseStep_rr (d : Int) (o : Operator) :
    (o.phaseStep d).rr = o.rr := rfl
@[simp] theorem Operator.phaseStep_sl (d : Int) (o : Operator) :
    (o.phaseStep d).sl = o.sl := rfl
@[simp] theorem Operator.phaseStep_ks (d : Int) (o : Operator) :
    (o.phaseStep d).ks = o.ks := rfl
@[simp] theorem Operator.phaseStep_ssg (d : Int) (o : Operator) :
    (o.phaseStep d).ssg = o.ssg := rfl
@[simp] theorem Operator.phaseStep_egtHold (d : Int) (o : Operator) :
    (o.phaseStep d).egtHold = o.egtHold := rfl
@[simp] theorem Operator.phaseStep_egtIgnk (d : Int) (o : Operator) :
    (o.phaseStep d).egtIgnk = o.egtIgnk := rfl
@[simp] theorem Operator.phaseStep_phase (d : Int) (o : Operator) :
    (o.phaseStep d).phase = BitVec.ofInt 20 (o.phase.toNat + o.inc.toNat + d) := rfl
@[simp] theorem Operator.phaseStep_inc (d : Int) (o : Operator) :
    (o.phaseStep d).inc = o.inc := rfl
@[simp] theorem Operator.phaseStep_egMode (d : Int) (o : Operator) :
    (o.phaseStep d).egMode = o.egMode := rfl
@[simp] theorem Operator.phaseStep_egLevel (d : Int) (o : Operator) :
    (o.phaseStep d).egLevel = o.egLevel := rfl
@[simp] theorem Operator.phaseStep_egAcc (d : Int) (o : Operator) :
    (o.phaseStep d).egAcc = o.egAcc := rfl
@[simp] theorem Operator.phaseStep_egAtkPos (d : Int) (o : Operator) :
    (o.phaseStep d).egAtkPos = o.egAtkPos := rfl
@[simp] theorem Operator.phaseStep_enable (d : Int) (o : Operator) :
    (o.phaseStep d).enable = o.enable := rfl

@[simp] theorem Channel.eval_floLatch (ch : Channel) (ops : Config.OperatorCount) (am : Nat) :
    (ch.eval ops am).floLatch = ch.floLatch := rfl
@[simp] theorem Channel.eval_fhiLatch (ch : Channel) (ops : Config.OperatorCount) (am : Nat) :
    (ch.eval ops am).fhiLatch = ch.fhiLatch := rfl
@[simp] theorem Channel.eval_loLanded (ch : Channel) (ops : Config.OperatorCount) (am : Nat) :
    (ch.eval ops am).loLanded = ch.loLanded := rfl
@[simp] theorem Channel.eval_hiLanded (ch : Channel) (ops : Config.OperatorCount) (am : Nat) :
    (ch.eval ops am).hiLanded = ch.hiLanded := rfl
@[simp] theorem Channel.eval_fnum (ch : Channel) (ops : Config.OperatorCount) (am : Nat) :
    (ch.eval ops am).fnum = ch.fnum := rfl
@[simp] theorem Channel.eval_block (ch : Channel) (ops : Config.OperatorCount) (am : Nat) :
    (ch.eval ops am).block = ch.block := rfl
@[simp] theorem Channel.eval_kcode (ch : Channel) (ops : Config.OperatorCount) (am : Nat) :
    (ch.eval ops am).kcode = ch.kcode := rfl
@[simp] theorem Channel.eval_alg (ch : Channel) (ops : Config.OperatorCount) (am : Nat) :
    (ch.eval ops am).alg = ch.alg := rfl
@[simp] theorem Channel.eval_fb (ch : Channel) (ops : Config.OperatorCount) (am : Nat) :
    (ch.eval ops am).fb = ch.fb := rfl
@[simp] theorem Channel.eval_pan (ch : Channel) (ops : Config.OperatorCount) (am : Nat) :
    (ch.eval ops am).pan = ch.pan := rfl
@[simp] theorem Channel.eval_ams (ch : Channel) (ops : Config.OperatorCount) (am : Nat) :
    (ch.eval ops am).ams = ch.ams := rfl
@[simp] theorem Channel.eval_pms (ch : Channel) (ops : Config.OperatorCount) (am : Nat) :
    (ch.eval ops am).pms = ch.pms := rfl
@[simp] theorem Channel.eval_keyLatch (ch : Channel) (ops : Config.OperatorCount) (am : Nat) :
    (ch.eval ops am).keyLatch = ch.keyLatch := rfl
@[simp] theorem Channel.eval_fbh1 (ch : Channel) (ops : Config.OperatorCount) (am : Nat) :
    (ch.eval ops am).fbh1 = BitVec.ofInt 14 ((ch.outputs ops am).getD 0 0) := rfl
@[simp] theorem Channel.eval_fbh2 (ch : Channel) (ops : Config.OperatorCount) (am : Nat) :
    (ch.eval ops am).fbh2 = ch.fbh1 := rfl
@[simp] theorem Channel.eval_chout (ch : Channel) (ops : Config.OperatorCount) (am : Nat) :
    (ch.eval ops am).chout = BitVec.ofInt 16 (sumAt (ch.outputs ops am) (carriersOf ops ch.alg)) := rfl
@[simp] theorem Channel.eval_ops (ch : Channel) (ops : Config.OperatorCount) (am : Nat) :
    (ch.eval ops am).ops = ch.ops := rfl

@[simp] theorem Channel.sampleTick_floLatch (ops : Config.OperatorCount) (am : Nat) (pm : Int) (ch : Channel) :
    (ch.sampleTick ops am pm).floLatch = ch.floLatch := rfl
@[simp] theorem Channel.sampleTick_fhiLatch (ops : Config.OperatorCount) (am : Nat) (pm : Int) (ch : Channel) :
    (ch.sampleTick ops am pm).fhiLatch = ch.fhiLatch := rfl
@[simp] theorem Channel.sampleTick_loLanded (ops : Config.OperatorCount) (am : Nat) (pm : Int) (ch : Channel) :
    (ch.sampleTick ops am pm).loLanded = ch.loLanded := rfl
@[simp] theorem Channel.sampleTick_hiLanded (ops : Config.OperatorCount) (am : Nat) (pm : Int) (ch : Channel) :
    (ch.sampleTick ops am pm).hiLanded = ch.hiLanded := rfl
@[simp] theorem Channel.sampleTick_fnum (ops : Config.OperatorCount) (am : Nat) (pm : Int) (ch : Channel) :
    (ch.sampleTick ops am pm).fnum = ch.fnum := rfl
@[simp] theorem Channel.sampleTick_block (ops : Config.OperatorCount) (am : Nat) (pm : Int) (ch : Channel) :
    (ch.sampleTick ops am pm).block = ch.block := rfl
@[simp] theorem Channel.sampleTick_kcode (ops : Config.OperatorCount) (am : Nat) (pm : Int) (ch : Channel) :
    (ch.sampleTick ops am pm).kcode = ch.kcode := rfl
@[simp] theorem Channel.sampleTick_alg (ops : Config.OperatorCount) (am : Nat) (pm : Int) (ch : Channel) :
    (ch.sampleTick ops am pm).alg = ch.alg := rfl
@[simp] theorem Channel.sampleTick_fb (ops : Config.OperatorCount) (am : Nat) (pm : Int) (ch : Channel) :
    (ch.sampleTick ops am pm).fb = ch.fb := rfl
@[simp] theorem Channel.sampleTick_pan (ops : Config.OperatorCount) (am : Nat) (pm : Int) (ch : Channel) :
    (ch.sampleTick ops am pm).pan = ch.pan := rfl
@[simp] theorem Channel.sampleTick_ams (ops : Config.OperatorCount) (am : Nat) (pm : Int) (ch : Channel) :
    (ch.sampleTick ops am pm).ams = ch.ams := rfl
@[simp] theorem Channel.sampleTick_pms (ops : Config.OperatorCount) (am : Nat) (pm : Int) (ch : Channel) :
    (ch.sampleTick ops am pm).pms = ch.pms := rfl
@[simp] theorem Channel.sampleTick_keyLatch (ops : Config.OperatorCount) (am : Nat) (pm : Int) (ch : Channel) :
    (ch.sampleTick ops am pm).keyLatch = ch.keyLatch := rfl
@[simp] theorem Channel.sampleTick_fbh1 (ops : Config.OperatorCount) (am : Nat) (pm : Int) (ch : Channel) :
    (ch.sampleTick ops am pm).fbh1 = BitVec.ofInt 14 ((ch.outputs ops am).getD 0 0) := rfl
@[simp] theorem Channel.sampleTick_fbh2 (ops : Config.OperatorCount) (am : Nat) (pm : Int) (ch : Channel) :
    (ch.sampleTick ops am pm).fbh2 = ch.fbh1 := rfl
@[simp] theorem Channel.sampleTick_chout (ops : Config.OperatorCount) (am : Nat) (pm : Int) (ch : Channel) :
    (ch.sampleTick ops am pm).chout = BitVec.ofInt 16 (sumAt (ch.outputs ops am) (carriersOf ops ch.alg)) := rfl
@[simp] theorem Channel.sampleTick_ops (ops : Config.OperatorCount) (am : Nat) (pm : Int) (ch : Channel) :
    (ch.sampleTick ops am pm).ops = ch.ops.map fun o => (o.phaseStep (pmDelta o.inc pm ch.pms)).egStep ch.kcode := rfl

@[simp] theorem sampleTick_cfg (s : State) :
    (sampleTick s).cfg = s.cfg := rfl
@[simp] theorem sampleTick_ready (s : State) :
    (sampleTick s).ready = s.ready := rfl
@[simp] theorem sampleTick_clkNum (s : State) :
    (sampleTick s).clkNum = s.clkNum := rfl
@[simp] theorem sampleTick_clkDen (s : State) :
    (sampleTick s).clkDen = s.clkDen := rfl
@[simp] theorem sampleTick_cps (s : State) :
    (sampleTick s).cps = s.cps := rfl
@[simp] theorem sampleTick_clkAcc (s : State) :
    (sampleTick s).clkAcc = s.clkAcc := rfl
@[simp] theorem sampleTick_queue (s : State) :
    (sampleTick s).queue = s.queue := rfl
@[simp] theorem sampleTick_busyCnt (s : State) :
    (sampleTick s).busyCnt = s.busyCnt := rfl
@[simp] theorem sampleTick_vol (s : State) :
    (sampleTick s).vol = s.vol := rfl
@[simp] theorem sampleTick_lfoAmFreq (s : State) :
    (sampleTick s).lfoAmFreq = s.lfoAmFreq := rfl
@[simp] theorem sampleTick_lfoPmFreq (s : State) :
    (sampleTick s).lfoPmFreq = s.lfoPmFreq := rfl
@[simp] theorem sampleTick_lfoAmWave (s : State) :
    (sampleTick s).lfoAmWave = s.lfoAmWave := rfl
@[simp] theorem sampleTick_lfoPmWave (s : State) :
    (sampleTick s).lfoPmWave = s.lfoPmWave := rfl
@[simp] theorem sampleTick_lfoAmCnt (s : State) :
    (sampleTick s).lfoAmCnt = lfoAdvance s.lfoAmCnt s.lfoAmFreq := rfl
@[simp] theorem sampleTick_lfoPmCnt (s : State) :
    (sampleTick s).lfoPmCnt = lfoAdvance s.lfoPmCnt s.lfoPmFreq := rfl
@[simp] theorem sampleTick_outL (s : State) :
    (sampleTick s).outL = BitVec.ofInt 32 (volumeStage s.vol (mixOf 1 (s.ch.map (Channel.sampleTick s.cfg.ops s.amOut s.pmOut)))) := rfl
@[simp] theorem sampleTick_outR (s : State) :
    (sampleTick s).outR = BitVec.ofInt 32 (volumeStage s.vol (mixOf 0 (s.ch.map (Channel.sampleTick s.cfg.ops s.amOut s.pmOut)))) := rfl
@[simp] theorem sampleTick_ch (s : State) :
    (sampleTick s).ch = s.ch.map (Channel.sampleTick s.cfg.ops s.amOut s.pmOut) := rfl
@[simp] theorem sampleTick_script (s : State) :
    (sampleTick s).script = s.script := rfl
@[simp] theorem sampleTick_reply (s : State) :
    (sampleTick s).reply = s.reply := rfl

/-! ## Reset -/

@[simp] theorem State.afterReset_cfg (cfg : Config.Params) (script : List HostCall) (clk rate : Nat) :
    (State.afterReset cfg script clk rate).cfg = cfg := rfl
@[simp] theorem State.afterReset_ready (cfg : Config.Params) (script : List HostCall) (clk rate : Nat) :
    (State.afterReset cfg script clk rate).ready = true := rfl
@[simp] theorem State.afterReset_clkNum (cfg : Config.Params) (script : List HostCall) (clk rate : Nat) :
    (State.afterReset cfg script clk rate).clkNum = BitVec.ofNat 32 clk := rfl
@[simp] theorem State.afterReset_clkDen (cfg : Config.Params) (script : List HostCall) (clk rate : Nat) :
    (State.afterReset cfg script clk rate).clkDen = BitVec.ofNat 32 rate := rfl
@[simp] theorem State.afterReset_cps (cfg : Config.Params) (script : List HostCall) (clk rate : Nat) :
    (State.afterReset cfg script clk rate).cps = BitVec.ofNat 24 (clk * 4096 / rate) := rfl
@[simp] theorem State.afterReset_clkAcc (cfg : Config.Params) (script : List HostCall) (clk rate : Nat) :
    (State.afterReset cfg script clk rate).clkAcc = 0 := rfl
@[simp] theorem State.afterReset_queue (cfg : Config.Params) (script : List HostCall) (clk rate : Nat) :
    (State.afterReset cfg script clk rate).queue = [] := rfl
@[simp] theorem State.afterReset_busyCnt (cfg : Config.Params) (script : List HostCall) (clk rate : Nat) :
    (State.afterReset cfg script clk rate).busyCnt = 0 := rfl
@[simp] theorem State.afterReset_vol (cfg : Config.Params) (script : List HostCall) (clk rate : Nat) :
    (State.afterReset cfg script clk rate).vol = 0 := rfl
@[simp] theorem State.afterReset_lfoAmFreq (cfg : Config.Params) (script : List HostCall) (clk rate : Nat) :
    (State.afterReset cfg script clk rate).lfoAmFreq = 0 := rfl
@[simp] theorem State.afterReset_lfoPmFreq (cfg : Config.Params) (script : List HostCall) (clk rate : Nat) :
    (State.afterReset cfg script clk rate).lfoPmFreq = 0 := rfl
@[simp] theorem State.afterReset_lfoAmWave (cfg : Config.Params) (script : List HostCall) (clk rate : Nat) :
    (State.afterReset cfg script clk rate).lfoAmWave = 0 := rfl
@[simp] theorem State.afterReset_lfoPmWave (cfg : Config.Params) (script : List HostCall) (clk rate : Nat) :
    (State.afterReset cfg script clk rate).lfoPmWave = 0 := rfl
@[simp] theorem State.afterReset_lfoAmCnt (cfg : Config.Params) (script : List HostCall) (clk rate : Nat) :
    (State.afterReset cfg script clk rate).lfoAmCnt = 0 := rfl
@[simp] theorem State.afterReset_lfoPmCnt (cfg : Config.Params) (script : List HostCall) (clk rate : Nat) :
    (State.afterReset cfg script clk rate).lfoPmCnt = 0 := rfl
@[simp] theorem State.afterReset_outL (cfg : Config.Params) (script : List HostCall) (clk rate : Nat) :
    (State.afterReset cfg script clk rate).outL = 0 := rfl
@[simp] theorem State.afterReset_outR (cfg : Config.Params) (script : List HostCall) (clk rate : Nat) :
    (State.afterReset cfg script clk rate).outR = 0 := rfl
@[simp] theorem State.afterReset_ch (cfg : Config.Params) (script : List HostCall) (clk rate : Nat) :
    (State.afterReset cfg script clk rate).ch = List.replicate cfg.nch (Channel.initial cfg.ops) := rfl
@[simp] theorem State.afterReset_script (cfg : Config.Params) (script : List HostCall) (clk rate : Nat) :
    (State.afterReset cfg script clk rate).script = script := rfl
@[simp] theorem State.afterReset_reply (cfg : Config.Params) (script : List HostCall) (clk rate : Nat) :
    (State.afterReset cfg script clk rate).reply = .done := rfl

end Sys2Proof.Machine
end

