-- ==== Sys2Proof/Laws/Ops.lean ====
section
/-!
SUPPORT. What each shared operation can do, said once: the reads and updates of the records, the READY check, the
effect of a queue command, one chip clock, one sample.
-/

namespace Sys2Proof.Machine

/-! ## Records -/

/-- Reading a channel after an update of a channel. -/
theorem State.chan?_updChan (s : State) (c c' : Nat) (f : Channel → Channel) :
    (s.updChan c f).chan? c' =
      if c' = c ∧ c < s.cfg.nch then (s.chan? c).map f else s.chan? c' := by
  unfold State.chan? State.updChan
  by_cases h : c < s.cfg.nch
  · by_cases h' : c = c'
    · subst h'; simp [h]
    · simp [h, h', Ne.symm h']
  · simp [h]

/-- An operator read through its channel. -/
theorem State.oper?_eq_bind (s : State) (c k : Nat) :
    s.oper? c k = (s.chan? c).bind (fun ch => ch.ops[k]?) := rfl

/-- Reading an operator after an update of an operator. -/
theorem State.oper?_updOper (s : State) (c k c' k' : Nat) (f : Operator → Operator) :
    (s.updOper c k f).oper? c' k' =
      if c' = c ∧ k' = k ∧ c < s.cfg.nch ∧ k < s.cfg.ops.count then (s.oper? c k).map f
      else s.oper? c' k' := by
  rw [State.oper?_eq_bind, State.updOper, State.chan?_updChan]
  by_cases hk : k < s.cfg.ops.count
  · by_cases hc : c' = c ∧ c < s.cfg.nch
    · obtain ⟨rfl, hc⟩ := hc
      by_cases hk' : k' = k
      · subst hk'
        cases h : s.chan? c' <;> simp [State.oper?_eq_bind, h, hc, hk]
      · cases h : s.chan? c' <;>
          simp [State.oper?_eq_bind, h, hc, hk, hk', Ne.symm hk']
    · have : ¬ (c' = c ∧ k' = k ∧ c < s.cfg.nch ∧ k < s.cfg.ops.count) := by tauto
      simp [hc, this, State.oper?_eq_bind]
  · by_cases hc : c' = c ∧ c < s.cfg.nch
    · obtain ⟨rfl, hc⟩ := hc
      simp [hc, hk, State.oper?_eq_bind]
    · simp [hc, hk, State.oper?_eq_bind]

/-- An update of a channel keeps the number of channels. -/
@[simp] theorem State.length_ch_updChan (s : State) (c : Nat) (f : Channel → Channel) :
    (s.updChan c f).ch.length = s.ch.length := by
  simp only [State.updChan_ch]; split <;> simp

/-- Every channel after an update of a channel is an old one or the update of an old one. -/
theorem State.mem_ch_updChan {s : State} {c : Nat} {f : Channel → Channel} {x : Channel}
    (h : x ∈ (s.updChan c f).ch) : x ∈ s.ch ∨ ∃ y ∈ s.ch, x = f y := by
  simp only [State.updChan_ch] at h
  split at h
  · obtain ⟨i, hi⟩ := List.mem_iff_getElem?.mp h
    rw [List.getElem?_modify] at hi
    cases hy : s.ch[i]? with
    | none => simp [hy] at hi
    | some y =>
      have hm := List.mem_of_getElem? hy
      by_cases hc : c = i
      · simp [hy, hc] at hi; exact .inr ⟨y, hm, hi.symm⟩
      · simp [hy, hc] at hi; exact .inl (hi ▸ hm)
  · exact .inl h

/-- Every operator after an update of an operator is an old one or the update of an old one. -/
theorem Channel.mem_ops_updOper {ch : Channel} {k : Nat} {f : Operator → Operator} {x : Operator}
    (h : x ∈ (ch.updOper k f).ops) : x ∈ ch.ops ∨ ∃ y ∈ ch.ops, x = f y := by
  simp only [Channel.updOper_ops] at h
  obtain ⟨i, hi⟩ := List.mem_iff_getElem?.mp h
  rw [List.getElem?_modify] at hi
  cases hy : ch.ops[i]? with
  | none => simp [hy] at hi
  | some y =>
    have hm := List.mem_of_getElem? hy
    by_cases hc : k = i
    · simp [hy, hc] at hi; exact .inr ⟨y, hm, hi.symm⟩
    · simp [hy, hc] at hi; exact .inl (hi ▸ hm)

/-! ## The READY check -/

/-- A host operation that gives a next state ran on a ready state. -/
theorem whenReady_next {s t : State} {k : State → Host.Outcome State Fault Refusal}
    (h : whenReady s k = .next t) : s.ready = true ∧ k s = .next t := by
  unfold whenReady at h
  cases hr : s.ready <;> simp_all

/-- On a ready state the check does nothing. -/
theorem whenReady_of_ready {s : State} {k : State → Host.Outcome State Fault Refusal}
    (h : s.ready = true) : whenReady s k = k s := by simp [whenReady, h]

/-! ## Queue commands -/

/-- A queue command touches the channel records, the busy counter and the four LFO registers, and nothing
else ("No command reads or writes `QUEUE`, `CLKACC`, `VOL`, the LFO counters or the output latches"). -/
theorem applyCommand_frame (i : Instr) (s : State) :
    applyCommand i s =
      { s with
        ch := (applyCommand i s).ch, busyCnt := (applyCommand i s).busyCnt
        lfoAmFreq := (applyCommand i s).lfoAmFreq, lfoPmFreq := (applyCommand i s).lfoPmFreq
        lfoAmWave := (applyCommand i s).lfoAmWave, lfoPmWave := (applyCommand i s).lfoPmWave } := by
  cases i <;> rfl

@[simp] theorem applyCommand_cfg (i : Instr) (s : State) : (applyCommand i s).cfg = s.cfg := by
  cases i <;> rfl

@[simp] theorem applyCommand_ready (i : Instr) (s : State) : (applyCommand i s).ready = s.ready := by
  cases i <;> rfl

@[simp] theorem applyCommand_clkNum (i : Instr) (s : State) :
    (applyCommand i s).clkNum = s.clkNum := by
  cases i <;> rfl

@[simp] theorem applyCommand_clkDen (i : Instr) (s : State) :
    (applyCommand i s).clkDen = s.clkDen := by
  cases i <;> rfl

@[simp] theorem applyCommand_cps (i : Instr) (s : State) : (applyCommand i s).cps = s.cps := by
  cases i <;> rfl

@[simp] theorem applyCommand_clkAcc (i : Instr) (s : State) :
    (applyCommand i s).clkAcc = s.clkAcc := by
  cases i <;> rfl

@[simp] theorem applyCommand_queue (i : Instr) (s : State) : (applyCommand i s).queue = s.queue := by
  cases i <;> rfl

@[simp] theorem applyCommand_vol (i : Instr) (s : State) : (applyCommand i s).vol = s.vol := by
  cases i <;> rfl

@[simp] theorem applyCommand_script (i : Instr) (s : State) :
    (applyCommand i s).script = s.script := by
  cases i <;> rfl

@[simp] theorem applyCommand_reply (i : Instr) (s : State) : (applyCommand i s).reply = s.reply := by
  cases i <;> rfl

/-- The meaning of a queue command is what the scheduler applies. -/
theorem exec_queueCommand {i : Instr} (h : i.isQueueCommand = true) (s : State) :
    exec i s = .next (applyCommand i s) := by
  cases i <;> first | rfl | exact Bool.noConfusion (show false = true from h)

/-! ## One chip clock -/

/-- The acceptance test either leaves the state or takes the head of the queue and applies it. -/
theorem State.acceptHead_cases (s : State) :
    ((s.busyCnt ≠ 0 ∨ s.queue = []) ∧ s.acceptHead = s) ∨
      ∃ e rest, s.busyCnt = 0 ∧ s.queue = e :: rest ∧
        s.acceptHead = applyCommand (decodeEntry s.cfg e.word) { s with queue := rest } := by
  unfold State.acceptHead State.busyFlag
  cases hb : s.busyCnt != 0 with
  | true => exact .inl ⟨.inl (bne_iff_ne.mp hb), rfl⟩
  | false =>
    have h0 : s.busyCnt = 0 := bne_eq_false_iff_eq.mp hb
    cases hq : s.queue with
    | nil => exact .inl ⟨.inr rfl, rfl⟩
    | cons e rest => exact .inr ⟨e, rest, h0, rfl, rfl⟩

/-- What one chip clock leaves alone. -/
theorem subtick_frame (s : State) :
    subtick s =
      { s with
        ch := (subtick s).ch, busyCnt := (subtick s).busyCnt, queue := (subtick s).queue
        lfoAmFreq := (subtick s).lfoAmFreq, lfoPmFreq := (subtick s).lfoPmFreq
        lfoAmWave := (subtick s).lfoAmWave, lfoPmWave := (subtick s).lfoPmWave } := by
  unfold subtick
  rcases s.countDown.acceptHead_cases with ⟨-, h⟩ | ⟨e, rest, -, -, h⟩
  · rw [h]; rfl
  · rw [h, applyCommand_frame]; rfl

theorem subticks_zero (s : State) : subticks 0 s = s := rfl

theorem subticks_succ (n : Nat) (s : State) : subticks (n + 1) s = subticks n (subtick s) := rfl

/-- What holds of every chip clock holds of every run of chip clocks. -/
theorem subticks_induction {P : State → Prop} (step : ∀ s, P s → P (subtick s)) :
    ∀ (n : Nat) (s : State), P s → P (subticks n s)
  | 0, _, h => h
  | n + 1, s, h => subticks_induction step n (subtick s) (step s h)

/-! ## Samples -/

theorem generateSamples_zero (s : State) : generateSamples 0 s = (s, []) := rfl

theorem generateSamples_succ (n : Nat) (s : State) :
    generateSamples (n + 1) s =
      ((generateSamples n (oneSample s)).1,
        ((oneSample s).outL, (oneSample s).outR) :: (generateSamples n (oneSample s)).2) := rfl

/-- What holds of every chip clock and every SAMPLETICK, and does not look at the divider's remainder, holds
of every run of samples. -/
theorem generateSamples_induction {P : State → Prop}
    (rest : ∀ s, P s → P { s with clkAcc := s.dividerRest })
    (clock : ∀ s, P s → P (subtick s)) (sample : ∀ s, P s → P (sampleTick s)) :
    ∀ (n : Nat) (s : State), P s → P (generateSamples n s).1
  | 0, _, h => h
  | n + 1, s, h =>
    generateSamples_induction rest clock sample n (oneSample s)
      (sample _ (subticks_induction clock _ _ (rest s h)))

/-- GENERATE on a ready state. -/
theorem execGenerate_of_ready {s : State} (n : Nat) (h : s.ready = true) :
    execGenerate n s =
      .next ((generateSamples n s).1.withReply (.samples (generateSamples n s).2)) :=
  whenReady_of_ready h

/-- TICK on a ready state. -/
theorem execTick_of_ready {s : State} (h : s.ready = true) :
    execTick s = .next ((generateSamples 1 s).1.withReply (.samples (generateSamples 1 s).2)) :=
  whenReady_of_ready h

end Sys2Proof.Machine
end

