-- ==== Sys2Proof/Laws/PerInstr.lean ====
section
/-!
SUPPORT. Statements about every instruction, one lemma per constructor.

Family `Format`: an instruction of format H is written as a host call and every other as an entry word.
-/

namespace Sys2Proof.Laws.Format

/-- The encoding of an instruction has the form its format says (R81, R87). -/
def Statement (i : Instr) : Prop :=
  (∃ e, encode i = .entry e ∧ i.isQueueCommand = true) ∨
    ∃ h, encode i = .call h ∧ i.isQueueCommand = false

theorem statusW : Statement .statusW := .inl ⟨_, rfl, rfl⟩

theorem lfoAmFreq (f : BitVec 8) : Statement (.lfoAmFreq f) := .inl ⟨_, rfl, rfl⟩

theorem lfoPmFreq (f : BitVec 8) : Statement (.lfoPmFreq f) := .inl ⟨_, rfl, rfl⟩

theorem lfoWave (am pm : BitVec 2) : Statement (.lfoWave am pm) := .inl ⟨_, rfl, rfl⟩

theorem key (c : BitVec 3) (on : Bool) : Statement (.key c on) := .inl ⟨_, rfl, rfl⟩

theorem freqLo (c : BitVec 3) (lo : BitVec 8) : Statement (.freqLo c lo) := .inl ⟨_, rfl, rfl⟩

theorem freqHi (c fhi block : BitVec 3) : Statement (.freqHi c fhi block) := .inl ⟨_, rfl, rfl⟩

theorem algFb (c alg fb : BitVec 3) : Statement (.algFb c alg fb) := .inl ⟨_, rfl, rfl⟩

theorem panLfo (c : BitVec 3) (pan ams : BitVec 2) (pms : BitVec 3) : Statement (.panLfo c pan ams pms) := .inl ⟨_, rfl, rfl⟩

theorem mulDt (c : BitVec 3) (k : BitVec 2) (mul : BitVec 4) (dt : BitVec 3) : Statement (.mulDt c k mul dt) := .inl ⟨_, rfl, rfl⟩

theorem tl (c : BitVec 3) (k : BitVec 2) (level : BitVec 7) : Statement (.tl c k level) := .inl ⟨_, rfl, rfl⟩

theorem ar (c : BitVec 3) (k : BitVec 2) (rate : BitVec 6) : Statement (.ar c k rate) := .inl ⟨_, rfl, rfl⟩

theorem dr (c : BitVec 3) (k : BitVec 2) (rate : BitVec 6) : Statement (.dr c k rate) := .inl ⟨_, rfl, rfl⟩

theorem sr (c : BitVec 3) (k : BitVec 2) (rate : BitVec 6) : Statement (.sr c k rate) := .inl ⟨_, rfl, rfl⟩

theorem rr (c : BitVec 3) (k : BitVec 2) (rate : BitVec 6) : Statement (.rr c k rate) := .inl ⟨_, rfl, rfl⟩

theorem slKs (c : BitVec 3) (k : BitVec 2) (sl : BitVec 4) (ks : BitVec 2) : Statement (.slKs c k sl ks) := .inl ⟨_, rfl, rfl⟩

theorem egtSsg (c : BitVec 3) (k : BitVec 2) (ssg : BitVec 4) (hold ignk : Bool) : Statement (.egtSsg c k ssg hold ignk) := .inl ⟨_, rfl, rfl⟩

theorem wait (n : BitVec 24) : Statement (.wait n) := .inl ⟨_, rfl, rfl⟩

theorem unmapped : Statement .unmapped := .inl ⟨_, rfl, rfl⟩

theorem reset (clk rate : Nat) : Statement (.reset clk rate) := .inr ⟨_, rfl, rfl⟩

theorem write (addr : Key) (value : Byte) : Statement (.write addr value) := .inr ⟨_, rfl, rfl⟩

theorem read (addr : Key) : Statement (.read addr) := .inr ⟨_, rfl, rfl⟩

theorem generate (count : Nat) : Statement (.generate count) := .inr ⟨_, rfl, rfl⟩

theorem setVolume (level : Nat) : Statement (.setVolume level) := .inr ⟨_, rfl, rfl⟩

theorem tick : Statement .tick := .inr ⟨_, rfl, rfl⟩

end Sys2Proof.Laws.Format
end

