-- ==== Sys2Proof/Laws/Tables.lean ====
section
/-!
SUPPORT. What the tables' read port gives: the entry inside a table, and no value outside it (R111).
-/

namespace Sys2Proof.Machine

theorem romAt?_expTab (i : Fin 256) : romAt? expTabRows 8 i = some (expTab i) :=
  (Option.some_get (expTab_inRange i)).symm

theorem romAt?_sini (i : Fin 256) : romAt? siniRows 8 i = some (sini i) :=
  (Option.some_get (sini_inRange i)).symm

theorem romAt?_sinAtt (i : Fin 256) : romAt? sinAttRows 16 i = some (sinAtt i) :=
  (Option.some_get (sinAtt_inRange i)).symm

theorem romAt?_rateInc (i : Fin 64) : romAt? rateIncRows 8 i = some (rateInc i) :=
  (Option.some_get (rateInc_inRange i)).symm

theorem romAt?_attackCurve (i : Fin 41) : romAt? attackCurveRows 10 i = some (attackCurve i) :=
  (Option.some_get (attackCurve_inRange i)).symm

theorem romAt?_amTab (wave : BitVec 2) (i : BitVec 5) :
    romAt? amTabRows 32 (wave.toNat * 32 + i.toNat) = some (amTab wave i) :=
  (Option.some_get (amTab_inRange wave i)).symm

theorem romAt?_pmTab (wave : BitVec 2) (i : BitVec 5) :
    romAt? pmTabRows 32 (wave.toNat * 32 + i.toNat) = some (pmTab wave i) :=
  (Option.some_get (pmTab_inRange wave i)).symm

/-- Beyond its rows a table has no value. -/
theorem romAt?_of_le {α : Type} {rows : List (List α)} {width i : Nat} (h : rows.length ≤ i / width) :
    romAt? rows width i = none := by
  simp [romAt?, List.getElem?_eq_none h]

end Sys2Proof.Machine
end

