-- ==== Sys2Proof/Tests/Slice0.lean ====
section
/-!
SUPPORT. The model's own tests: the checks of WellFormed, the decoder on words written out from R84, vectors of
spec/95_test_vectors.md, one step of every instruction, and a state for the hypotheses of every statement of
Certificates/Slice0/Obligations.lean. Expected values come from the spec's vectors and worked examples, or from
working its rules by hand.
-/

/- The tests are checked one after another: checked together they take more threads than the sandbox allows. -/
set_option Elab.async false

namespace Sys2Proof.Tests

open Sys2Proof Sys2Proof.Machine

/-! ## Helpers -/

/-- A small instance: two channels, everything else as in the reference instance. -/
def smallParams : Config.Params := { Config.reference with nch := 2 }

/-- The small instance after `reset(1, 1)`: one chip clock per sample. -/
def small : State := State.afterReset smallParams [] 1 1

/-- The small instance with the frequency of the spec's scenario in channel 0 (R256, R259). -/
def tuned : State :=
  { small with cps := 712430, ch := small.ch.modify 0 fun ch => { ch with fnum := 1000, block := 4, kcode := 17 } }

/-- The state of an outcome that is a next state. -/
def stateOf (o : Host.Outcome State Fault Refusal) : Option State :=
  match o with
  | .next t => some t
  | .fault _ => none
  | .refused _ => none

/-- The refusal of an outcome. -/
def refusalOf (o : Host.Outcome State Fault Refusal) : Option Refusal :=
  match o with
  | .next _ => none
  | .fault _ => none
  | .refused r => some r

/-- Channel 0 after the step that accepts the entry word `w` on `s`. -/
def chanAfter (s : State) (w : Nat) : Option Channel :=
  (stateOf (step (s.withFetchWord 40 w))).bind fun t => t.chan? 0

/-- Operator `k` of channel 0 after the step that accepts the entry word `w` on `s`. -/
def operAfter (s : State) (w k : Nat) : Option Operator :=
  (stateOf (step (s.withFetchWord 40 w))).bind fun t => t.oper? 0 k

/-- An operator that sounds: keyed on, at full level. -/
def loud : Operator :=
  { Operator.initial with egMode := .sustain, egLevel := 0, egAtkPos := 40, enable := true }

/-- A channel with two such operators. -/
def loudChannel : Channel := { Channel.initial .two with keyLatch := true, ops := [loud, loud] }

/-- The small instance with a sounding channel 0. -/
def sounding : State := { small with ch := [loudChannel, Channel.initial .two] }

/-! ## WellFormed: an ill-formed term for each check -/

/-- Channel 6 of a six-channel instance, once for each command of format C. -/
theorem test_illFormed_channel :
    ([.freqLo 6 0, .freqHi 6 0 0, .algFb 6 0 0, .panLfo 6 0 0 0] : List Instr).map
      (Instr.wellFormed Config.reference) = [false, false, false, false] := by decide

/-- Operator 2 of a two-operator channel, once for each command of format O. -/
theorem test_illFormed_operator :
    ([.mulDt 0 2 0 0, .tl 0 2 0, .ar 0 2 0, .dr 0 2 0, .sr 0 2 0, .rr 0 2 0, .slKs 0 2 0 0,
      .egtSsg 0 2 0 false false] : List Instr).all
      (fun i => !i.wellFormed Config.reference) = true := by decide

/-- Channel 7 with an operator that exists, and both at their last legal value. -/
theorem test_illFormed_operator_channel :
    Instr.wellFormed Config.reference (.tl 7 0 0) = false ∧
      Instr.wellFormed Config.reference (.tl 5 1 0) = true ∧
      Instr.wellFormed Config.reference (.key 7 true) = true := by decide

/-- Arguments one above their u32 and u12. -/
theorem test_illFormed_host :
    Instr.wellFormed Config.reference (.reset 4294967296 1) = false ∧
      Instr.wellFormed Config.reference (.reset 0 4294967296) = false ∧
      Instr.wellFormed Config.reference (.setVolume 4096) = false ∧
      Instr.wellFormed Config.reference (.reset 4294967295 4294967295) = true ∧
      Instr.wellFormed Config.reference (.setVolume 4095) = true := by decide

/-! ## Decoding: words written out from R84, and from the table of spec/95 section 2.8 -/

/-- Formats G, P and none. -/
theorem test_decode_global :
    ([0x000000005A, 0x00000001FF, 0x0000000210, 0x0000000313, 0x0000000480, 0x0000000400, 0x0000000487,
      0x80000003E8, 0xFFFFFFFFFF, 0x00000005AA] : List EntryWord).map (decodeEntry Config.reference) =
      [.statusW, .lfoAmFreq 255, .lfoPmFreq 16, .lfoWave 3 1, .key 0 true, .key 0 false, .key 7 true,
        .wait 1000, .wait 16777215, .unmapped] := by decide

/-- Format C. -/
theorem test_decode_channel :
    ([0x00000100E8, 0x0000010123, 0x000001122F, 0x0000010376, 0x0000015007, 0x0000016007] : List EntryWord).map
        (decodeEntry Config.reference) =
      [.freqLo 0 0xE8, .freqHi 0 3 4, .algFb 1 7 5, .panLfo 0 2 1 7, .freqLo 5 7, .unmapped] := by decide

/-- Format O. -/
theorem test_decode_operator :
    ([0x0000021031, 0x000002017F, 0x000002023F, 0x0000020328, 0x000002141E, 0x0000021532, 0x0000020604,
      0x0000021710, 0x000002B23F, 0x0000035120] : List EntryWord).map (decodeEntry Config.reference) =
      [.mulDt 0 1 1 3, .tl 0 0 127, .ar 0 0 63, .dr 0 0 40, .sr 0 1 30, .rr 0 1 50, .slKs 0 0 4 0,
        .egtSsg 0 1 0 true false, .unmapped, .tl 5 1 32] := by decide

/-- An index that a four-operator instance has and a two-operator one has not. -/
theorem test_decode_four :
    decodeEntry { Config.reference with ops := .four } 0x000002B23F = .ar 2 3 63 := by decide

/-- The edges of the unmapped ranges of R86. -/
theorem test_decode_unmapped :
    ([0x0000000500, 0x000000FF00, 0x0000010400, 0x0000016000, 0x0000018000, 0x000001FF00, 0x0000020800,
      0x0000022000, 0x0000038000, 0x000003FF00, 0x0000040000, 0x7FFFFFFF00] : List EntryWord).all
      (fun e => decide (decodeEntry Config.reference e = .unmapped)) = true := by decide

/-- Reserved bits of R85: `WR 0x202, 0xFF` stores 63, `WR 0x201, 0x80` stores 0, `WR 0x004, 0xF8` is KEYON 0. -/
theorem test_decode_reserved :
    ([0x00000202FF, 0x0000020180, 0x00000004F8, 0xFFFF0003E8] : List EntryWord).map
        (decodeEntry Config.reference) = [.ar 0 0 63, .tl 0 0 0, .key 0 true, .wait 1000] := by decide

/-- A replacement map (R64): WAIT at one key with its count in the value byte, a FREQ_HI whose channel stands in the
value, split in two, and whose block the map gives, a KEY with a fixed channel that is always on, and STATUS read at
keys 0x20 and 0x21. -/
def otherParams : Config.Params :=
  { smallParams with
    map :=
      { rows :=
          [ ⟨0x0000000700, 0xFFFFFFFF00, .wait (Config.bits 0 8)⟩,
            ⟨0x0000000800, 0xFFFFFFFF00,
              .freqHi [.slice 7 1, .slice 0 1] (Config.bits 1 3) [.const 3 5]⟩,
            ⟨0x0000000900, 0xFFFFFFFF00, .key [.const 3 1] [.const 1 1]⟩ ]
        statusKeys := [⟨0x20, 0xFFFFFFFE⟩] } }

/-- Channel 1 from `V[7]`, channel 2 from `V[0]` is no channel of the instance; no row claims a set bit 31. -/
theorem test_decode_otherMap :
    ([0x0000000709, 0x0000000886, 0x0000000887, 0x0000000900, 0x80000003E8, 0x0000000000] : List EntryWord).map
        (decodeEntry otherParams) =
      [.wait 9, .freqHi 1 3 5, .unmapped, .key 1 true, .unmapped, .unmapped] := by decide

/-- STATUS moves with the map. -/
theorem test_read_otherMap :
    let s : State := { small with cfg := otherParams, busyCnt := 1 }
    [s.readKey 0, s.readKey 0x20, s.readKey 0x21, s.readKey 0x22] = [0xFF, 0x80, 0x80, 0xFF] := by decide

/-- The host operation codes (R87). -/
theorem test_decode_calls :
    (List.range 8).map (decodeTableWord 3) =
      [some (.reset 0 0), some (.write 0 0), some (.read 0), some (.generate 0), some (.setVolume 0),
        some .tick, none, none] := by decide

/-- A value and an address that do not fit their types. -/
theorem test_decode_call_too_wide :
    decodeCall ⟨1, 4294967296, 0⟩ = .error .operandTooWide ∧
      decodeCall ⟨1, 0, 256⟩ = .error .operandTooWide ∧
      decodeCall ⟨2, 4294967296, 0⟩ = .error .operandTooWide := ⟨rfl, rfl, rfl⟩

/-- The table's numbering: a 40-bit word is an entry. -/
theorem test_decodeTableWord_entry : decodeTableWord 40 0x0000010123 = some (.freqHi 0 3 4) := by decide

/-! ## Vectors of spec/95 section 2 -/

/-- Section 2.1, `LINMAG`. -/
theorem test_linMag :
    [0, 1, 255, 256, 257, 511, 512, 1000, 2137, 3071, 3072, 4014, 4095, 4096].map linMag =
      [262144, 261435, 131427, 131072, 130717, 65713, 65536, 17484, 804, 64, 64, 4, 4, 0] := by
  decide +kernel

/-- Section 2.1, `logToLinear`. -/
theorem test_logToLinear :
    ([(0, 0), (1, 0), (0, 6), (2, 6), (513, 0), (4274, 6), (4275, 6), (6144, 6), (6146, 6), (8190, 0),
      (8191, 0), (8192, 0), (16383, 0)] : List (Nat × Nat)).map (fun x => logToLinear x.1 x.2) =
      [262144, -262144, 4096, 4084, -131072, 12, -12, 1, 0, 4, -4, 0, 0] := by decide +kernel

/-- Section 2.1, `linearToLog`. -/
theorem test_linearToLog :
    ([0, 1, 3, 4, 5, 12, 64, 100, 804, 3379, 4096, 131071, 262143, 262144, 1000000, -1, -4, -5000] :
      List Int).map linearToLog =
      [8192, 8192, 8192, 8028, 7894, 7322, 6134, 5808, 4274, 3214, 3072, 514, 2, 0, 0, 8193, 8029, 2927] := by
  decide +kernel

/-- Section 2.1, `SINTAB`. -/
theorem test_sinTab :
    ([0, 1, 100, 158, 255, 256, 511, 512, 513, 700, 767, 768, 1023] : List (BitVec 10)).map sinTab =
      [4274, 3464, 406, 142, 2, 2, 4274, 4275, 3465, 67, 3, 3, 4275] := by decide +kernel

/-- The sums of R101, R108 and R109. -/
theorem test_table_sums :
    ((List.finRange 256).map expTab).sum = 48474373 ∧ ((List.finRange 256).map sini).sum = 42722893 ∧
      ((List.finRange 256).map sinAtt).sum = 65536 := by decide +kernel

/-- Section 2.2, the increments of R131. -/
theorem test_incOf :
    [incOf 712430 1000 4 0 0, incOf 712430 1000 4 1 3, incOf 712430 1000 4 1 7, incOf 712430 1000 7 1 0,
      incOf 712430 512 3 2 5, incOf 712430 2047 7 15 0, incOf 712430 2047 7 15 3, incOf 712430 1 0 1 0,
      incOf 712430 0 7 15 3, incOf 305454 1000 4 1 5] =
      [5435, 10925, 10816, 86966, 5554, 573156, 587505, 0, 0, 4656] := by decide

/-- Section 2.2, the key codes. -/
theorem test_keyCode :
    [keyCode 4 1000, keyCode 7 1000, keyCode 3 500, keyCode 7 2047, keyCode 0 511] = [17, 29, 12, 31, 0] := by
  decide

/-- Section 2.2, the phase step, with a wrap and with negative deltas. -/
theorem test_phaseStep :
    (({ loud with phase := 0xFFC00, inc := 5435 } : Operator).phaseStep 0).phase = 4411 ∧
      (({ loud with phase := 0xFFFFF, inc := 1 } : Operator).phaseStep 0).phase = 0 ∧
      (({ loud with phase := 0, inc := 1 } : Operator).phaseStep (-1)).phase = 0 ∧
      (({ loud with phase := 0, inc := 5435 } : Operator).phaseStep (-149)).phase = 5286 := by decide

/-- Section 2.3, the rate index. -/
theorem test_effectiveRate :
    [effectiveRate 63 17 0, effectiveRate 40 17 1, effectiveRate 40 17 2, effectiveRate 40 17 3,
      effectiveRate 60 31 3, effectiveRate 0 31 3, effectiveRate 2 7 3] = [63, 41, 42, 44, 63, 7, 3] := by
  decide

/-- Section 2.3, the first two steps of an attack at rate 63, and its last. -/
theorem test_attack :
    let o : Operator := { loud with egMode := .attack, egLevel := 1023, egAtkPos := 0, ar := 63 }
    ((o.egStep 0).egAtkPos, (o.egStep 0).egLevel, (o.egStep 0).egAcc) = (3, 685, 32768) ∧
      (((o.egStep 0).egStep 0).egAtkPos, ((o.egStep 0).egStep 0).egLevel) = (7, 400) ∧
      (({ o with egAtkPos := 36, egLevel := 4 } : Operator).egStep 0).egMode = .attack ∧
      (({ o with egAtkPos := 38, egLevel := 2, egAcc := 32768 } : Operator).egStep 0).egMode = .decay := by
  decide +kernel

/-- Section 2.3, Decay at index 56 into both sustain modes at threshold 128. -/
theorem test_decay_exit :
    let o : Operator := { loud with egMode := .decay, egLevel := 127, dr := 56, sl := 2 }
    (o.egStep 0).egMode = .sustain ∧ (o.egStep 0).egLevel = 128 ∧
      (({ o with egtHold := true } : Operator).egStep 0).egMode = .sustainHold ∧
      (({ o with egLevel := 126 } : Operator).egStep 0).egMode = .decay := by decide +kernel

/-- Program P3: Release at index 62 goes 1022, then Off at 1023. -/
theorem test_release_off :
    let o : Operator := { loud with egMode := .release, egLevel := 1022, rr := 62 }
    (o.egStep 0).egMode = .off ∧ (o.egStep 0).egLevel = 1023 ∧ (o.egStep 0).enable = false := by
  decide +kernel

/-- Section 2.4. -/
theorem test_lfo :
    [lfoAdvance 4194240 255, lfoAdvance 0 255] = [4016, 4080] ∧
      [amContrib 0 60, amContrib 1 60, amContrib 2 60, amContrib 3 63] = [0, 240, 480, 1008] ∧
      [pmDelta 5435 32 7, pmDelta 5435 (-32) 7, pmDelta 1 (-4) 1, pmDelta 1048575 (-32) 7,
        pmDelta 9321 (-30) 3] = [148, -149, -1, -28672, -103] := by decide

/-- Section 2.5, operator outputs, with level, total level and AM (R186). -/
theorem test_output :
    [loud.output 0 0, loud.output 0 100, loud.output 0 255, loud.output 0 512, loud.output 0 700,
      ({ loud with tl := 5, egLevel := 10 } : Operator).output 0 100,
      ({ loud with egLevel := 100 } : Operator).output 252 700,
      ({ loud with enable := false } : Operator).output 0 255] =
      [12, 2364, 4084, -12, -3745, 1375, -641, 0] := by decide +kernel

/-- Section 2.5, feedback. -/
theorem test_feedback :
    [({ loudChannel with fbh1 := 3626, fbh2 := 3548, fb := 1 } : Channel).feedback 0,
      ({ loudChannel with fbh1 := 3626, fbh2 := 3548, fb := 7 } : Channel).feedback 0,
      ({ loudChannel with fbh1 := -100, fbh2 := -101, fb := 7 } : Channel).feedback 0,
      ({ loudChannel with fbh1 := 3626, fbh2 := 3548, fb := 0 } : Channel).feedback 0] =
      [14, 896, -26, 0] := by decide

/-- R197: one channel evaluation. -/
theorem test_channel_eval :
    let ch := ({ loudChannel with fbh1 := 77, ops := [{ loud with phase := 102400 }, loud] } : Channel).eval .two 0
    ch.chout = 3379 ∧ ch.fbh1 = 2364 ∧ ch.fbh2 = 77 := by decide +kernel

/-- Section 2.7, the volume stage. -/
theorem test_volume :
    [volumeStage 0 3379, volumeStage 256 3379, volumeStage 100 3379, volumeStage 256 (-3379),
      volumeStage 0 3, volumeStage 0 4, volumeStage 512 131072, volumeStage 2560 4084,
      volumeStage 64 (-7718)] = [3379, 1689, 2577, -1689, 0, 4, 32768, 0, -6490] := by decide +kernel

/-- Section 2.7, the clock divider's first two samples. -/
theorem test_divider :
    State.reset.subtickCount = 173 ∧ State.reset.dividerRest = 41154 ∧
      ({ State.reset with clkAcc := 41154 } : State).subtickCount = 174 := by decide

/-- Program P4, the four values of STATUS, and the sentinel at a mapped key (R218). -/
theorem test_status :
    [small.readKey 0, { small with queue := [⟨0, 0⟩] }.readKey 0, { small with busyCnt := 25 }.readKey 0,
      { small with queue := [⟨0, 0⟩], busyCnt := 25 }.readKey 0, small.readKey 0x100] =
      [0x00, 0x40, 0x80, 0xC0, 0xFF] := by decide

/-! ## One step of every instruction, from the table of spec/95 section 2.8. The step is a TICK whose one chip clock
accepts the entry. -/

/-- NOP: 32 chip clocks of busy, no channel record changed. -/
theorem test_step_statusW :
    (stateOf (step (small.withFetchWord 40 0x000000005A))).map (fun t => (t.busyCnt, t.ch, t.queue)) =
      some (32, small.ch, []) := by decide +kernel

theorem test_step_lfoAmFreq :
    (stateOf (step (small.withFetchWord 40 0x00000001FF))).map (fun t => (t.lfoAmFreq, t.lfoAmCnt)) =
      some (255, 4080) := by decide +kernel

theorem test_step_lfoPmFreq :
    (stateOf (step (small.withFetchWord 40 0x0000000210))).map (fun t => (t.lfoPmFreq, t.lfoPmCnt)) =
      some (16, 256) := by decide +kernel

theorem test_step_lfoWave :
    (stateOf (step (small.withFetchWord 40 0x0000000313))).map (fun t => (t.lfoAmWave, t.lfoPmWave)) =
      some (3, 1) := by decide +kernel

/-- Key-on from Sustain, with a feedback history; the rate 0 attack stands still in the same sample. -/
theorem test_step_keyOn :
    (operAfter { sounding with ch := [{ loudChannel with fbh1 := 5, fbh2 := 6 }] } 0x0000000480 1).map
        (fun o => (o.egMode, o.egLevel, o.egAtkPos, o.enable)) = some (.attack, 1023, 0, true) ∧
      (chanAfter { sounding with ch := [{ loudChannel with fbh1 := 5, fbh2 := 6 }] } 0x0000000480).map
        (fun ch => (ch.keyLatch, ch.fbh1, ch.fbh2)) = some (true, 0, 0) := by decide +kernel

/-- Key-off of an operator that is keyed, and of one that ignores it. -/
theorem test_step_keyOff :
    let s : State := { sounding with ch := [{ loudChannel with ops := [loud, { loud with egtIgnk := true }] }] }
    ((operAfter s 0x0000000400 0).map Operator.egMode, (operAfter s 0x0000000400 1).map Operator.egMode,
      (chanAfter s 0x0000000400).map Channel.keyLatch) = (some .release, some .sustain, some false) := by
  decide +kernel

/-- A lone low byte fills its latch; the second byte retunes. -/
theorem test_step_freqLo :
    (chanAfter small 0x00000100E8).map (fun ch => (ch.floLatch, ch.loLanded, ch.fnum)) =
      some (0xE8, true, 0) := by decide +kernel

theorem test_step_freqHi :
    let s : State := { small with
      cps := 712430, ch := [{ Channel.initial .two with floLatch := 0xE8, loLanded := true }] }
    (chanAfter s 0x0000010123).map (fun ch => (ch.fnum, ch.block, ch.kcode, ch.ops.map Operator.inc)) =
        some (1000, 4, 17, [5435, 5435]) ∧
      (chanAfter s 0x0000010123).map (fun ch => (ch.fhiLatch, ch.loLanded, ch.hiLanded)) =
        some (0x23, false, false) := by decide +kernel

/-- With two operators the stored algorithm is one bit. -/
theorem test_step_algFb :
    (chanAfter small 0x000001022F).map (fun ch => (ch.alg, ch.fb)) = some (1, 5) ∧
      (chanAfter { small with cfg := { smallParams with ops := .four } } 0x000001022F).map
        (fun ch => (ch.alg, ch.fb)) = some (7, 5) := by decide +kernel

theorem test_step_panLfo :
    (chanAfter small 0x0000010376).map (fun ch => (ch.pan, ch.ams, ch.pms)) = some (2, 1, 7) := by decide +kernel

theorem test_step_mulDt :
    (operAfter tuned 0x0000021031 1).map (fun o => (o.mul, o.dt, o.inc)) = some (1, 3, 10925) ∧
      (operAfter tuned 0x0000021031 0).map Operator.inc = some 0 := by decide +kernel

theorem test_step_tl : (operAfter small 0x000002017F 0).map Operator.tl = some 127 := by decide +kernel

theorem test_step_ar : (operAfter small 0x000002023F 0).map Operator.ar = some 63 := by decide +kernel

theorem test_step_dr : (operAfter small 0x0000020328 0).map Operator.dr = some 40 := by decide +kernel

theorem test_step_sr : (operAfter small 0x000002141E 1).map Operator.sr = some 30 := by decide +kernel

theorem test_step_rr : (operAfter small 0x0000021532 1).map Operator.rr = some 50 := by decide +kernel

theorem test_step_slKs :
    (operAfter small 0x0000020634 0).map (fun o => (o.sl, o.ks)) = some (4, 3) := by decide +kernel

theorem test_step_egtSsg :
    (operAfter small 0x0000021719 1).map (fun o => (o.ssg, o.egtHold, o.egtIgnk)) =
      some (9, true, false) := by decide +kernel

theorem test_step_wait :
    (stateOf (step (small.withFetchWord 40 0x80000003E8))).map (fun t => (t.busyCnt, t.ch)) =
      some (1000, small.ch) := by decide +kernel

theorem test_step_unmapped :
    (stateOf (step (small.withFetchWord 40 0x000002B23F))).map (fun t => (t.busyCnt, t.ch)) =
      some (32, small.ch) := by decide +kernel

/-- Section 2.9: RESET 4095, 1 is accepted, RESET 4096, 1 and RESET 7670454, 0 are refused. -/
theorem test_reset :
    (stateOf (exec (.reset 4095 1) State.powerOn)).map State.cps = some 16773120 ∧
      refusalOf (exec (.reset 4096 1) State.powerOn) = some .resetArguments ∧
      refusalOf (exec (.reset 7670454 0) State.powerOn) = some .resetArguments := by decide

/-- The reset state of the document's scenario (R52, R123). -/
theorem test_reset_values :
    State.reset.cps = 712430 ∧ State.reset.ch.length = 6 ∧ State.reset.ready = true ∧
      (State.reset.oper? 5 1).map Operator.egLevel = some 1023 ∧
      (State.reset.chan? 5).map Channel.pan = some 3 := by decide

theorem test_write :
    (stateOf (step { small with queue := [⟨1, 1⟩], script := [⟨1, 0xFFFFFFFF, 0xFF⟩] })).map State.queue =
      some [⟨1, 1⟩, ⟨0xFFFFFFFF, 0xFF⟩] := by decide

theorem test_read :
    (stateOf (step { small with busyCnt := 1, script := [⟨2, 0, 0⟩] })).map State.reply =
      some (.byte 0x80) := by decide

/-- Two operators in series at full level and phase 0: the constant 163 of section 1.1. -/
theorem test_generate :
    (stateOf (step { sounding with script := [⟨3, 0, 0⟩] })).map State.reply = some (.samples []) ∧
      (stateOf (step { sounding with script := [⟨3, 1, 0⟩] })).map (fun t => t.reply) =
        some (.samples [(163, 163)]) := by decide +kernel

theorem test_setVolume :
    (stateOf (step { small with script := [⟨4, 4095, 0⟩] })).map State.vol = some 4095 ∧
      refusalOf (step { small with script := [⟨4, 4096, 0⟩] }) = some .volumeLevel := by decide

theorem test_tick :
    stateOf (step { sounding with script := [⟨5, 0, 0⟩] }) =
      stateOf (step { sounding with script := [⟨3, 1, 0⟩] }) := by decide +kernel

/-- Section 2.9: before any `reset`. -/
theorem test_notReady :
    [refusalOf (exec (.write 0 0) State.powerOn), refusalOf (exec (.read 0) State.powerOn),
      refusalOf (exec (.generate 0) State.powerOn), refusalOf (exec .tick State.powerOn),
      refusalOf (exec (.setVolume 0) State.powerOn)] = List.replicate 5 (some .notReady) := by decide

/-- A code that is no operation (R87). -/
theorem test_badCall :
    refusalOf (step { small with script := [⟨6, 0, 0⟩] }) = some (.badCall .noSuchCode) := by decide

/-- Section 2.6: at `BUSY_WRITE = 0` three entries are still accepted at three chip clocks. -/
theorem test_busyWrite_zero :
    let s : State := { small with
      cfg := { smallParams with busyWrite := 0 }, queue := [⟨1, 1⟩, ⟨2, 2⟩, ⟨3, 3⟩] }
    ((subtick s).queue.length, (subticks 2 s).queue.length, (subticks 3 s).queue.length) = (2, 1, 0) := by
  decide +kernel

/-- Section 2.6: after WAIT 5 the next entry is accepted five chip clocks later. -/
theorem test_wait_separates :
    let s : State := { small with queue := [⟨0x80000000, 5⟩, ⟨2, 2⟩] }
    ((subtick s).busyCnt, (subticks 5 s).lfoPmFreq, (subticks 6 s).lfoPmFreq) = (5, 0, 2) := by decide +kernel

/-! ## Witnesses: for every statement with hypotheses, values that meet them all together, clause by clause and at
the ends of their ranges -/

/-- GENERATE gives a next state on a ready state. -/
theorem test_generate_completes (n : Nat) (s : State) (h : s.ready = true) :
    ∃ t, exec (.generate n) s = .next t := ⟨_, execGenerate_of_ready n h⟩

/-- TICK gives a next state on a ready state. -/
theorem test_tick_completes (s : State) (h : s.ready = true) : ∃ t, exec .tick s = .next t :=
  ⟨_, execTick_of_ready h⟩

/-- So does the step that runs a TICK. -/
theorem test_tick_steps (s : State) (h : s.ready = true) :
    ∃ t, step { s with script := [⟨5, 0, 0⟩] } = .next t :=
  ⟨_, execTick_of_ready (s := { s with script := [] }) h⟩

theorem test_witness_DecodeEncodeRoundTrip :
    Config.reference.map = Config.referenceMap ∧
      Instr.wellFormed Config.reference (.egtSsg 5 1 15 true true) = true ∧
      Instr.wellFormed Config.reference (.freqLo 0 0) = true ∧
      Instr.wellFormed Config.reference (.write 0xFFFFFFFF 0xFF) = true ∧
      Instr.wellFormed Config.reference .unmapped = true := by decide

theorem test_witness_DecodeFollowsAddressRanges :
    smallParams.map = Config.referenceMap ∧
      decodeEntry smallParams (0x117#32 ++ 0#8) = ruleCommand smallParams 0x117 0 := by decide

theorem test_witness_UnmappedKeysAreSilentlyIgnored :
    Config.reference.map = Config.referenceMap ∧ 0x80000000 ≤ (0x80000000#32).toNat ∧
      0x80000000 ≤ (0xFFFFFFFF#32).toNat ∧ unmappedKey Config.reference 0x005 = true ∧
      unmappedKey Config.reference 0x004 = false := by decide

theorem test_witness_ReservedBitsAreIgnored :
    small.cfg.map = Config.referenceMap ∧ (0x102#32).toNat < 0x80000000 ∧
      (0x00#8) &&& usedValueBits small.cfg 0x102 = 0xC6#8 &&& usedValueBits small.cfg 0x102 ∧
      0x80000000 ≤ (0x80000003#32).toNat ∧ 0x80000000 ≤ (0xFFFF0003#32).toNat ∧
      (0x80000003#32).toNat % 65536 = (0xFFFF0003#32).toNat % 65536 := by decide

theorem test_witness_HostOperationCodes :
    let s : State := { small with script := [⟨6, 0, 0⟩, ⟨7, 1, 2⟩] }
    s.script = ⟨6, 0, 0⟩ :: [⟨7, 1, 2⟩] ∧ 6 ≤ (6#3).toNat ∧ 6 ≤ (7#3).toNat := by decide

theorem test_witness_StepRunsTheDecodedOperation :
    ({ small with script := [⟨3, 2, 0⟩] } : State).script = ⟨3, 2, 0⟩ :: [] ∧
      decodeCall ⟨3, 2, 0⟩ = .ok (.generate 2) ∧ decodeCall ⟨7, 0, 0⟩ = .error .noSuchCode ∧
      small.script = [] := ⟨rfl, rfl, rfl, rfl⟩

/-- Busy 0 and 1 accept, 2 does not; a WAIT and a register write at the head; `d` of 1 and of 2. -/
theorem test_witness_SubtickAcceptsOrCountsDown :
    let s : State := { small with queue := [⟨0x80000000, 5⟩, ⟨1, 1⟩] }
    small.queue = [] ∧ 2 ≤ ({ s with busyCnt := 2 } : State).busyCnt.toNat ∧
      s.queue = ⟨0x80000000, 5⟩ :: [⟨1, 1⟩] ∧ s.busyCnt.toNat ≤ 1 ∧
      ({ s with busyCnt := 1 } : State).busyCnt.toNat ≤ 1 ∧
      decodeEntry s.cfg (0x80000000#32 ++ 5#8) = .wait 5 ∧
      decodeEntry s.cfg (1#32 ++ 1#8) = .lfoAmFreq 1 ∧
      ({ s with busyCnt := 1 } : State).busyCnt.toNat = 1 ∧
      ({ s with busyCnt := 2 } : State).busyCnt.toNat = 2 := by decide

theorem test_witness_BusyDurationSeparatesEntries :
    let s : State := { small with queue := [⟨1, 1⟩, ⟨2, 2⟩], busyCnt := 3 }
    s.queue = ⟨1, 1⟩ :: [⟨2, 2⟩] ∧ 2 < max s.busyCnt.toNat 1 ∧
      0 < max ({ s with busyCnt := 0 } : State).busyCnt.toNat 1 ∧ small.queue = [] := by decide

theorem test_witness_QueueIsFirstInFirstOut :
    (∃ t, exec (.write 1 2) small = .next t) ∧ (∃ t, exec (.reset 0 1) small = .next t) ∧
      (∃ t, exec (.generate 2) small = .next t) ∧ (∃ t, exec .tick small = .next t) ∧
      ∃ t, exec (.read 0) small = .next t :=
  ⟨⟨_, rfl⟩, ⟨_, rfl⟩, test_generate_completes 2 small rfl, test_tick_completes small rfl, ⟨_, rfl⟩⟩

theorem test_witness_ClockDividerIsExact :
    State.reset.clkDen.toNat ≠ 0 ∧
      State.reset.clkAcc.toNat + State.reset.clkNum.toNat < 7670455 ∧
      State.reset.clkAcc.toNat < State.reset.clkDen.toNat ∧
      ({ State.reset with clkAcc := 44099 } : State).clkAcc.toNat < State.reset.clkDen.toNat := by decide

/-- Channels 6 and 7 and operator 2 of the reference instance. -/
theorem test_witness_AbsentIndicesTakeTimeOnly :
    Instr.isQueueCommand (.tl 6 0 0) = true ∧ Instr.wellFormed State.reset.cfg (.tl 6 0 0) = false ∧
      Instr.isQueueCommand (.tl 0 2 0) = true ∧ Instr.wellFormed State.reset.cfg (.tl 0 2 0) = false ∧
      Instr.wellFormed State.reset.cfg (.freqLo 7 0) = false ∧ State.reset.cfg.nch ≤ (6#3).toNat ∧
      Config.reference.map = Config.referenceMap ∧ Config.reference.ops.count ≤ (2#2).toNat := by decide

/-- A command that keeps the mode, a key-on, a key-off, and a SAMPLETICK that disables. -/
theorem test_witness_ModeTransitionsAreTheTable :
    (∃ t, exec (.tl 0 0 1) sounding = .next t ∧ (t.oper? 0 0).map Operator.egMode = some .sustain) ∧
      (∃ t, exec (.key 0 true) sounding = .next t ∧ (t.oper? 0 0).map Operator.egMode = some .attack) ∧
      (∃ t, exec (.key 0 false) sounding = .next t ∧
        (t.oper? 0 0).map Operator.egMode = some .release) ∧
      sounding.oper? 0 0 = some loud ∧
      ((sampleTick { sounding with ch := [{ loudChannel with ops := [{ loud with egLevel := 1023 }] }] }).oper?
        0 0).map Operator.enable = some false :=
  ⟨⟨_, rfl, by decide⟩, ⟨_, rfl, by decide⟩, ⟨_, rfl, by decide⟩, by decide, by decide +kernel⟩

theorem test_witness_OnlyRetuneAndMulDtWriteIncrements :
    Instr.isQueueCommand (.panLfo 0 1 2 3) = true ∧ ∃ t, exec (.panLfo 0 1 2 3) tuned = .next t :=
  ⟨rfl, _, rfl⟩

/-- The scenario's arguments, the least and the greatest. -/
theorem test_witness_ResetWritesEveryElement :
    resetLegal 7670454 44100 ∧ resetLegal 0 1 ∧ resetLegal 4095 1 ∧ resetLegal 4294967295 4294967295 := by
  decide

/-- Legal arguments, one above each bound, and the least and the greatest rate with clock 0. -/
theorem test_witness_ResetArgumentsAreChecked :
    resetLegal 4095 1 ∧ ¬ resetLegal 4096 1 ∧ ¬ resetLegal 0 0 ∧ ¬ resetLegal 4294967296 4294967295 ∧
      ¬ resetLegal 0 4294967296 ∧ resetLegal 0 4294967295 ∧ resetLegal 0 1 := by decide

theorem test_witness_ResetForgetsThePast :
    sounding.cfg = small.cfg ∧ sounding.script = small.script ∧ resetLegal 1 1 ∧
      ∃ t, exec (.reset 1 1) sounding = .next t := ⟨rfl, rfl, by decide, _, rfl⟩

theorem test_witness_ReadyIsRequiredAndPermanent :
    State.powerOn.ready = false ∧ (∃ t, exec (.reset 1 1) State.powerOn = .next t) ∧
      (∃ t, exec .tick small = .next t) ∧ small.ready = true :=
  ⟨rfl, ⟨_, rfl⟩, test_tick_completes small rfl, rfl⟩

theorem test_witness_LatchesChangeOnlyAtTheirOperation :
    (∃ t, exec (.reset 1 1) small = .next t) ∧ (∃ t, exec (.setVolume 1) small = .next t) ∧
      (∃ t, exec (.generate 1) small = .next t) ∧ ∃ t, exec (.write 0 0) small = .next t :=
  ⟨⟨_, rfl⟩, ⟨_, rfl⟩, test_generate_completes 1 small rfl, ⟨_, rfl⟩⟩

/-- The hypothesis `ready` of the statements on WRITE, READ, GENERATE and TICK. -/
theorem test_witness_ready_operations : small.ready = true ∧ small.queue = [] := by decide

/-- A key at which STATUS is read and one at which it is not, under the reference map. -/
theorem test_witness_ReadReturnsStatusOrSentinel :
    small.ready = true ∧ readsStatus small.cfg 0 = true ∧ readsStatus small.cfg 1 = false ∧
      readsStatus small.cfg 0xFFFFFFFF = false ∧ small.cfg.map = Config.referenceMap := by decide

theorem test_witness_SetVolumeWritesTheOffset :
    small.ready = true ∧ 4095 ≤ 4095 ∧ 4095 < 4096 ∧ Within 131072 131072 ∧ Within 131072 (-131072) := by
  unfold Within; decide

theorem test_witness_tables :
    (1 ≤ (1 : Fin 256).val ∧ 1 ≤ (255 : Fin 256).val) ∧
      (4095 ≤ 4095 ∧ 4095 < 4096 ∧ 8192 ≤ 8192 ∧ 1 ≤ 1 ∧ (8191 : Fin 8192).val = 2 * 4095 + 1) ∧
      (3 : Fin 64).val < 4 ∧ 4 ≤ (4 : Fin 64).val ∧ 4 ≤ (63 : Fin 64).val ∧
      (40 : Fin 41).val = (39 : Fin 41).val + 1 := by decide

theorem test_witness_LinearToLogFindsTheLeast :
    1 ≤ (-1 : Int).natAbs ∧ (3 : Int).natAbs ≤ 3 ∧ 262144 ≤ (-262144 : Int).natAbs := by decide

/-- Both signs; an attenuation at each end; two values in order of magnitude. -/
theorem test_witness_LogPairLaws :
    (0 : Int) < 4 ∧ (-4 : Int) < 0 ∧ 0 ≤ 4096 ∧ 4096 ≤ 4096 ∧ linMag 4095 = linMag 4014 ∧
      (-3 : Int).natAbs ≤ (5 : Int).natAbs := by decide +kernel

theorem test_witness_LfoDepthsScaleTheOutputs : (1 : BitVec 2) ≠ 0 ∧ (3 : BitVec 2) ≠ 0 := by decide

/-- An operator whose increment is 0, keyed on and not. -/
theorem test_witness_ZeroFrequencyHoldsThePhase :
    sounding.chan? 0 = some loudChannel ∧ sounding.oper? 0 1 = some loud ∧ loud.inc = 0 ∧
      sounding.oper? 1 0 = some Operator.initial ∧ Operator.initial.inc = 0 := by decide

/-- Each mode, on both sides of its exit: the attack at position 36 and 38, the decay below and at its threshold,
the sustain and the release below and at the ceiling. -/
theorem test_witness_EnvelopeStepByMode :
    let a : Operator := { loud with egMode := .attack, ar := 63 }
    let d : Operator := { loud with egMode := .decay, dr := 56, sl := 2 }
    let r : Operator := { loud with egMode := .release, rr := 62 }
    min (({ a with egAtkPos := 36 } : Operator).egAtkPos.toNat + ruleSteps a a.ar.toNat 0) 40 < 40 ∧
      min (({ a with egAtkPos := 38 } : Operator).egAtkPos.toNat + ruleSteps a a.ar.toNat 0) 40 = 40 ∧
      min (({ d with egLevel := 126 } : Operator).egLevel.toNat + ruleSteps d d.dr.toNat 0) 1023 <
        d.sl.toNat * 64 ∧
      d.sl.toNat * 64 ≤
        min (({ d with egLevel := 127 } : Operator).egLevel.toNat + ruleSteps d d.dr.toNat 0) 1023 ∧
      (loud.egMode = .sustain ∧ loud.egLevel.toNat + ruleSteps loud loud.sr.toNat 0 < 1023) ∧
      ({ r with egLevel := 1019 } : Operator).egLevel.toNat + ruleSteps r r.rr.toNat 0 < 1023 ∧
      1023 ≤ ({ r with egLevel := 1020 } : Operator).egLevel.toNat + ruleSteps r r.rr.toNat 0 ∧
      Operator.initial.egMode = .off := by decide +kernel

/-- An operator in Attack at the start of the curve and one in Sustain. -/
theorem test_witness_EnvelopeIsMonotonic :
    Operator.EnvelopeOk { loud with egMode := .attack, egLevel := 1023, egAtkPos := 0 } ∧
      Operator.EnvelopeOk loud ∧ Operator.EnvelopeOk Operator.initial := by
  unfold Operator.EnvelopeOk; decide +kernel

/-- Disabled and enabled; the least attenuation that is silent; the least silent total level; a mode with the
transform and one without. -/
theorem test_witness_OperatorOutputFormula :
    Operator.initial.enable = false ∧ loud.enable = true ∧
      sinTab 255 / 2 + (loud.egOut.toNat * 4 + loud.tl.toNat * 32 + 3072) = 3073 ∧
      96 ≤ ({ loud with tl := 96 } : Operator).tl.toNat ∧ loud.egMode = .sustain ∧ loud.ssg = 0 ∧
      Operator.initial.egMode = .off := by decide +kernel

theorem test_witness_FeedbackTerm :
    (1 ≠ 0 ∧ loudChannel.fb = 0) ∧ ({ loudChannel with fb := 7 } : Channel).fb ≠ 0 ∧
      Within 4096 (4096#14).toInt ∧ Within 4096 (-4096#14 : BitVec 14).toInt := by unfold Within; decide

theorem test_witness_OperatorsRouteWithinTheSample :
    (1#3).toNat < 2 ∧ 0 ∈ modsOf .two 0 1 ∧ 1 ∈ modsOf .four 1 2 ∧ loudChannel.ops[1]? = some loud := by
  decide

theorem test_witness_ChannelSampleAndHistory :
    (∀ o ∈ (Channel.initial .four).ops, o.enable = false) ∧ sounding.chan? 0 = some loudChannel ∧
      sounding.chan? 1 = some (Channel.initial .two) := by decide

/-- One SAMPLETICK: the sample is that of the old phase, and the phase has moved after it (R236). -/
theorem test_sampleTick_order :
    let ch := { loudChannel with ops := [{ loud with phase := 102400, inc := 5435 }, loud] }
    ((sampleTick { small with ch := [ch] }).chan? 0).map
      (fun ch => (ch.chout, ch.fbh1, ch.ops.map Operator.phase)) = some (3379, 2364, [107835, 0]) := by
  decide +kernel

/-- No channel, and the most there can be. -/
theorem test_witness_OutputsAreThePannedMix :
    ({ small with ch := [] } : State).ch.length ≤ 8 ∧
      ({ small with ch := List.replicate 8 loudChannel } : State).ch.length ≤ 8 := by decide

/-- A magnitude at each bound, a non-zero output, and an offset that silences. -/
theorem test_witness_VolumeStageConsequences :
    (3 : Int).natAbs ≤ 3 ∧ volumeStage 0 4 ≠ 0 ∧ 4095 < linearToLog 4084 / 2 + (2560#12).toNat ∧
      64 ≤ (64 : Int).natAbs ∧ Within 131072 64 ∧ Within 131072 (-131072) := by
  unfold Within; decide +kernel

theorem test_witness_EnvelopeInvariantKept :
    State.EnvelopeInv sounding ∧ (∃ t, exec .tick sounding = .next t) ∧
      ∃ t, step { sounding with script := [⟨5, 0, 0⟩] } = .next t :=
  ⟨by unfold State.EnvelopeInv Operator.EnvelopeOk; decide +kernel, test_tick_completes sounding rfl,
    test_tick_steps sounding rfl⟩

theorem test_witness_ChannelInvariantKept :
    State.ChannelInv sounding ∧ (∃ t, exec (.freqLo 0 1) sounding = .next t) ∧
      ∃ t, step { sounding with script := [⟨5, 0, 0⟩] } = .next t :=
  ⟨by unfold State.ChannelInv State.Shaped; decide, ⟨_, rfl⟩, test_tick_steps sounding rfl⟩

theorem test_witness_SampleRangesKept :
    State.RangeInv sounding ∧ (∃ t, exec (.generate 3) sounding = .next t) ∧
      ∃ t, step { sounding with script := [⟨5, 0, 0⟩] } = .next t :=
  ⟨by unfold State.RangeInv Within; decide, test_generate_completes 3 sounding rfl,
    test_tick_steps sounding rfl⟩

theorem test_witness_IncrementInvariantKept :
    State.IncrementInv small ∧ (∃ t, exec (.mulDt 0 1 2 3) small = .next t) ∧
      ∃ t, step { small with script := [⟨5, 0, 0⟩] } = .next t :=
  ⟨by unfold State.IncrementInv; decide, ⟨_, rfl⟩, test_tick_steps small rfl⟩

theorem test_witness_ClockInvariantKept :
    State.ClockInv State.reset ∧ (∃ t, exec (.setVolume 7) State.reset = .next t) ∧
      ∃ t, step { State.reset with script := [⟨4, 7, 0⟩] } = .next t :=
  ⟨by unfold State.ClockInv; decide, ⟨_, rfl⟩, ⟨_, rfl⟩⟩

theorem test_witness_ResetMeetsTheInvariants :
    resetLegal 7670454 44100 ∧ Config.reference.Legal ∧ ({ smallParams with nch := 8 } : Config.Params).Legal := by
  decide

/-- Two states that differ in channel 1 and in the outputs. -/
theorem test_witness_ChannelsDoNotInteract :
    AgreeOnChannel 0 sounding { sounding with ch := [loudChannel, loudChannel], outL := 5 } ∧
      sounding.ready = true := ⟨⟨rfl, rfl⟩, rfl⟩

end Sys2Proof.Tests
end

section
/-!
SUPPORT. What one step does, an equation for each form of the script: nothing waiting, a call that is no operation, a call
that is one. Proofs about `step` use these equations.
-/

namespace Sys2Proof.Machine

/-- R296: a host with nothing to do leaves the block as it is. -/
theorem step_of_script_nil {s : State} (hscript : s.script = []) : step s = .next s := by
  simp only [step, hscript]

/-- R283: a call that is no operation has no next state. -/
theorem step_of_decodeCall_error {s : State} {h : HostCall} {rest : List HostCall} {why : CallReject}
    (hscript : s.script = h :: rest) (hdecode : decodeCall h = .error why) :
    step s = .refused (.badCall why) := by
  simp only [step, hscript, hdecode]

/-- R5, R233: the operation runs whole, with its own call already off the script. -/
theorem step_of_decodeCall_ok {s : State} {h : HostCall} {rest : List HostCall} {i : Instr}
    (hscript : s.script = h :: rest) (hdecode : decodeCall h = .ok i) :
    step s = exec i { s with script := rest } := by
  simp only [step, hscript, hdecode]

/-- Settles O8: one equation of the step for each of the three forms of the script. -/
theorem stepRunsTheDecodedOperation : Obligations.StepRunsTheDecodedOperation :=
  ⟨fun _ _ _ _ => step_of_decodeCall_ok, fun _ _ _ _ => step_of_decodeCall_error,
    fun _ => step_of_script_nil⟩

end Sys2Proof.Machine
end

section
/-!
SUPPORT. One inversion for every instruction: when `exec` gives a next state, which state it is. On it rests the
induction by which an invariant holds after every instruction and every step.
-/

namespace Sys2Proof.Machine

/-! ## What an instruction can do -/

/-- The next states of an instruction: the scheduler's effect of a queue command, and one form for each host
operation, with the test that let it pass. -/
inductive Runs : Instr → State → State → Prop where
  | command {i : Instr} {s : State} (queued : i.isQueueCommand = true) : Runs i s (applyCommand i s)
  | reset {clk rate : Nat} {s : State} (legal : resetLegal clk rate) :
    Runs (.reset clk rate) s (State.afterReset s.cfg s.script clk rate)
  | write {a : Key} {v : Byte} {s : State} (ready : s.ready = true) :
    Runs (.write a v) s ((s.enqueue ⟨a, v⟩).withReply .done)
  | read {a : Key} {s : State} (ready : s.ready = true) :
    Runs (.read a) s (s.withReply (.byte (s.readKey a)))
  | generate {n : Nat} {s : State} (ready : s.ready = true) :
    Runs (.generate n) s ((generateSamples n s).1.withReply (.samples (generateSamples n s).2))
  | setVolume {l : Nat} {s : State} (ready : s.ready = true) (fits : l ≤ 4095) :
    Runs (.setVolume l) s ({ s with vol := BitVec.ofNat 12 l }.withReply .done)
  | tick {s : State} (ready : s.ready = true) :
    Runs .tick s ((generateSamples 1 s).1.withReply (.samples (generateSamples 1 s).2))

/-! The host operations but `reset` and the two that run samples, on a ready state. -/

theorem execWrite_of_ready {s : State} (a : Key) (v : Byte) (h : s.ready = true) :
    execWrite a v s = .next ((s.enqueue ⟨a, v⟩).withReply .done) := whenReady_of_ready h

theorem execRead_of_ready {s : State} (a : Key) (h : s.ready = true) :
    execRead a s = .next (s.withReply (.byte (s.readKey a))) := whenReady_of_ready h

theorem execSetVolume_of_ready {s : State} (l : Nat) (h : s.ready = true) :
    execSetVolume l s =
      if l ≤ 4095 then .next ({ s with vol := BitVec.ofNat 12 l }.withReply .done)
      else .refused .volumeLevel := whenReady_of_ready h

/-- A host operation that gives a next state passed the READY check, and its own where it has one. -/
theorem Runs.of_hostOperation {i : Instr} {s t : State} (hi : i.isQueueCommand = false)
    (h : exec i s = .next t) : Runs i s t := by
  cases i
  case reset clk rate =>
    have h : execReset clk rate s = .next t := h
    by_cases legal : resetLegal clk rate
    · rw [execReset, if_pos legal] at h; cases h; exact .reset legal
    · rw [execReset, if_neg legal] at h; cases h
  case write a v =>
    obtain ⟨ready, h⟩ := whenReady_next (show execWrite a v s = .next t from h)
    cases h; exact .write ready
  case read a =>
    obtain ⟨ready, h⟩ := whenReady_next (show execRead a s = .next t from h)
    cases h; exact .read ready
  case generate n =>
    obtain ⟨ready, h⟩ := whenReady_next (show execGenerate n s = .next t from h)
    cases h; exact .generate ready
  case setVolume l =>
    obtain ⟨ready, h⟩ := whenReady_next (show execSetVolume l s = .next t from h)
    by_cases fits : l ≤ 4095
    · rw [if_pos fits] at h; cases h; exact .setVolume ready fits
    · rw [if_neg fits] at h; cases h
  case tick =>
    obtain ⟨ready, h⟩ := whenReady_next (show execTick s = .next t from h)
    cases h; exact .tick ready
  all_goals cases hi

/-- `Runs` says exactly when `exec` gives a next state, and which. -/
theorem exec_eq_next_iff {i : Instr} {s t : State} : exec i s = .next t ↔ Runs i s t := by
  constructor
  · intro h
    cases hi : i.isQueueCommand with
    | true => rw [exec_queueCommand hi] at h; cases h; exact .command hi
    | false => exact .of_hostOperation hi h
  · intro h
    cases h with
    | command queued => exact exec_queueCommand queued s
    | reset legal => exact if_pos legal
    | write ready => exact execWrite_of_ready _ _ ready
    | read ready => exact execRead_of_ready _ ready
    | generate ready => exact execGenerate_of_ready _ ready
    | setVolume ready fits => exact (execSetVolume_of_ready _ ready).trans (if_pos fits)
    | tick ready => exact execTick_of_ready ready

/-! ## Invariants -/

/-- `P` survives each part that instructions are made of: a reset, the effect of a queue entry, the divider's
write of `CLKACC`, a SAMPLETICK, and a write of the fields that no invariant of the block reads. -/
structure Invariant (P : State → Prop) : Prop where
  reset : ∀ (s : State) (clk rate : Nat), resetLegal clk rate → P s →
    P (State.afterReset s.cfg s.script clk rate)
  command : ∀ (i : Instr) (s : State), P s → P (applyCommand i s)
  divider : ∀ s : State, P s → P { s with clkAcc := s.dividerRest }
  sample : ∀ s : State, P s → P (sampleTick s)
  bookkeeping : ∀ (s : State) (q : List Entry) (b : BitVec 24) (v : BitVec 12) (script : List HostCall)
    (r : Reply), P s → P { s with queue := q, busyCnt := b, vol := v, script := script, reply := r }

section
variable {P : State → Prop} (inv : Invariant P)
include inv

/-- One chip clock: the count-down, and perhaps the effect of the head of the queue. -/
theorem Invariant.subtick {s : State} (hs : P s) : P (subtick s) := by
  have counted : P s.countDown := inv.bookkeeping s s.queue s.countDown.busyCnt s.vol s.script s.reply hs
  unfold Machine.subtick
  rcases s.countDown.acceptHead_cases with ⟨-, h⟩ | ⟨e, rest, -, -, h⟩
  · rwa [h]
  · rw [h]
    exact inv.command _ _ (inv.bookkeeping _ rest _ _ _ _ counted)

/-- Any number of samples. -/
theorem Invariant.generateSamples (n : Nat) {s : State} (hs : P s) : P (generateSamples n s).1 :=
  generateSamples_induction inv.divider (fun _ => inv.subtick) inv.sample n s hs

/-- Every instruction. -/
theorem Invariant.exec {i : Instr} {s t : State} (hs : P s) (h : exec i s = .next t) : P t := by
  have samples (n : Nat) (r : Reply) : P ((Machine.generateSamples n s).1.withReply r) :=
    inv.bookkeeping _ _ _ _ _ r (inv.generateSamples n hs)
  cases exec_eq_next_iff.mp h with
  | command queued => exact inv.command i s hs
  | reset legal => exact inv.reset s _ _ legal hs
  | write ready => exact inv.bookkeeping s _ _ _ _ _ hs
  | read ready => exact inv.bookkeeping s _ _ _ _ _ hs
  | generate ready => exact samples _ _
  | setVolume ready fits => exact inv.bookkeeping s _ _ _ _ _ hs
  | tick ready => exact samples _ _

/-- Every step. -/
theorem Invariant.step {s t : State} (hs : P s) (h : step s = .next t) : P t := by
  cases hscript : s.script with
  | nil => rw [step_of_script_nil hscript] at h; cases h; exact hs
  | cons call rest =>
    cases hdecode : decodeCall call with
    | error why => rw [step_of_decodeCall_error hscript hdecode] at h; cases h
    | ok i =>
      rw [step_of_decodeCall_ok hscript hdecode] at h
      exact inv.exec (inv.bookkeeping s _ _ _ rest _ hs) h

/-- The two clauses of every statement that an invariant is kept. -/
theorem Invariant.kept :
    (∀ (i : Instr) (s t : State), P s → Machine.exec i s = .next t → P t) ∧
      ∀ s t : State, P s → Machine.step s = .next t → P t :=
  ⟨fun _ _ _ => inv.exec, fun _ _ => inv.step⟩

end

/-- R26, R27: the divider leaves a remainder below the divisor, which fits `CLKACC`. -/
theorem State.dividerRest_toNat (s : State) (h : s.clkDen.toNat ≠ 0) :
    s.dividerRest.toNat = (s.clkAcc.toNat + s.clkNum.toNat) % s.clkDen.toNat := by
  have below : (s.clkAcc.toNat + s.clkNum.toNat) % s.clkDen.toNat < s.clkDen.toNat :=
    Nat.mod_lt _ (Nat.pos_of_ne_zero h)
  rw [State.dividerRest, BitVec.toNat_ofNat, Nat.mod_eq_of_lt (below.trans s.clkDen.isLt)]

/-- A legal `reset` latches its arguments, and their truncated ratio, unchanged (R26, R302). -/
theorem State.afterReset_clocks (cfg : Config.Params) (script : List HostCall) {clk rate : Nat}
    (legal : resetLegal clk rate) :
    (State.afterReset cfg script clk rate).clkNum.toNat = clk ∧
      (State.afterReset cfg script clk rate).clkDen.toNat = rate ∧
      (State.afterReset cfg script clk rate).cps.toNat = clk * 4096 / rate := by
  obtain ⟨-, hrate, hclk, hcps⟩ := legal
  exact ⟨Nat.mod_eq_of_lt hclk, Nat.mod_eq_of_lt hrate, Nat.mod_eq_of_lt hcps⟩

theorem State.afterReset_clockInv (cfg : Config.Params) (script : List HostCall) {clk rate : Nat}
    (legal : resetLegal clk rate) : (State.afterReset cfg script clk rate).ClockInv := by
  intro _
  obtain ⟨hclk, hrate, hcps⟩ := State.afterReset_clocks cfg script legal
  have positive : 1 ≤ rate := legal.1
  rw [hclk, hrate, hcps]
  exact ⟨by omega, positive, rfl⟩

theorem clockInv_invariant : Invariant State.ClockInv where
  reset s _ _ legal _ := State.afterReset_clockInv s.cfg s.script legal
  command i s hs := by simpa [State.ClockInv] using hs
  divider s hs ready := by
    obtain ⟨nonzero, -, ratio⟩ := hs ready
    refine ⟨nonzero, ?_, ratio⟩
    rw [State.dividerRest_toNat s nonzero]
    exact Nat.mod_lt _ (Nat.pos_of_ne_zero nonzero)
  sample _ hs := hs
  bookkeeping _ _ _ _ _ _ hs := hs

/-- Settles O58: the divider's own write of `CLKACC` is the one part of an instruction, besides `reset`, that
touches what the invariant reads. -/
theorem clockInvariantKept : Obligations.ClockInvariantKept := clockInv_invariant.kept

end Sys2Proof.Machine
end

section
/-!
SUPPORT. What a queue command can do to a channel record, said once, and the induction by which a property of every
channel record becomes an invariant. Settled here: the envelope and increment invariants, and who writes increments.
-/

namespace Sys2Proof.Machine

/-! ## Lists of records -/

/-- An update of one entry relates the list, entry by entry, to what it was. -/
theorem forall₂_modify {α : Type} {R : α → α → Prop} {f : α → α} (same : ∀ x, R x x)
    (edit : ∀ x, R x (f x)) : ∀ (l : List α) (i : Nat), List.Forall₂ R l (l.modify i f)
  | [], i => by simp
  | x :: l, 0 => .cons (edit x) (List.forall₂_same.mpr fun y _ => same y)
  | x :: l, i + 1 => .cons (same x) (forall₂_modify same edit l i)

/-- What each entry hands on holds of all entries. -/
theorem forall_mem_of_forall₂ {α β : Type} {R : α → β → Prop} {P : α → Prop} {Q : β → Prop} {l : List α}
    {l' : List β} (h : List.Forall₂ R l l') (hl : ∀ x ∈ l, P x) (next : ∀ x y, P x → R x y → Q y) :
    ∀ y ∈ l', Q y := by
  induction h with
  | nil => simp
  | cons hxy _ ih =>
    obtain ⟨hx, hrest⟩ := List.forall_mem_cons.mp hl
    exact List.forall_mem_cons.mpr ⟨next _ _ hx hxy, ih hrest⟩

/-- A reading that each entry keeps is the same list of readings. -/
theorem map_eq_of_forall₂ {α β : Type} {R : α → α → Prop} {g : α → β} {l l' : List α}
    (h : List.Forall₂ R l l') (keeps : ∀ x y, R x y → g y = g x) : l'.map g = l.map g := by
  induction h with
  | nil => rfl
  | cons hxy _ ih => rw [List.map_cons, List.map_cons, keeps _ _ hxy, ih]

/-- A reading that an update keeps, at every operator of the channel. -/
theorem Channel.map_ops_updOper {β : Type} (ch : Channel) (k : Nat) {f : Operator → Operator}
    {g : Operator → β} (keeps : ∀ o, g (f o) = g o) : (ch.updOper k f).ops.map g = ch.ops.map g :=
  map_eq_of_forall₂ (forall₂_modify (R := fun o o' => g o' = g o) (fun _ => rfl) keeps ch.ops k)
    fun _ _ => id

/-- A property that an update hands on, at every operator of the channel. -/
theorem Channel.forall_ops_updOper {P : Operator → Prop} {ch : Channel} {f : Operator → Operator}
    (k : Nat) (h : ∀ o ∈ ch.ops, P o) (edit : ∀ o, P o → P (f o)) : ∀ o ∈ (ch.updOper k f).ops, P o := by
  intro o ho
  obtain hold | ⟨o', ho', rfl⟩ := Channel.mem_ops_updOper ho
  · exact h o hold
  · exact edit o' (h o' ho')

/-! ## The edits of a channel record -/

/-- The update writes operator registers other than MUL and DT, and nothing else (R260 to R266). -/
def WritesRegisters (f : Operator → Operator) : Prop :=
  ∀ o, f o =
    { o with
      tl := (f o).tl, ar := (f o).ar, dr := (f o).dr, sr := (f o).sr, rr := (f o).rr, sl := (f o).sl
      ks := (f o).ks, ssg := (f o).ssg, egtHold := (f o).egtHold, egtIgnk := (f o).egtIgnk }

/-- What a queue command can make of a channel record of a block with parameters `p`: leave it, or an edit of R254
to R266. -/
inductive ChannelEdit (p : Config.Params) (cps : BitVec 24) (ch : Channel) : Instr → Channel → Prop where
  | none {i : Instr} : ChannelEdit p cps ch i ch
  | keyOn {c : BitVec 3} : ChannelEdit p cps ch (.key c true) ch.keyOn
  | keyOff {c : BitVec 3} : ChannelEdit p cps ch (.key c false) ch.keyOff
  | freqLo {c : BitVec 3} {lo : BitVec 8} :
    ChannelEdit p cps ch (.freqLo c lo) ({ ch with floLatch := lo, loLanded := true }.retuneIfLanded cps)
  | freqHi {c fhi block : BitVec 3} :
    ChannelEdit p cps ch (.freqHi c fhi block)
      ({ ch with fhiLatch := fhiByte fhi block, hiLanded := true }.retuneIfLanded cps)
  | algFb {c alg fb : BitVec 3} :
    ChannelEdit p cps ch (.algFb c alg fb) { ch with alg := storedAlg p.ops alg, fb := fb }
  | panLfo {c : BitVec 3} {pan ams : BitVec 2} {pms : BitVec 3} :
    ChannelEdit p cps ch (.panLfo c pan ams pms) { ch with pan := pan, ams := ams, pms := pms }
  | mulDt {c : BitVec 3} {k : BitVec 2} {mul : BitVec 4} {dt : BitVec 3} :
    ChannelEdit p cps ch (.mulDt c k mul dt)
      (ch.updOper k.toNat fun o => recomputeInc cps ch.fnum ch.block { o with mul := mul, dt := dt })
  | registers {i : Instr} {k : Nat} {f : Operator → Operator} (writes : WritesRegisters f) :
    ChannelEdit p cps ch i (ch.updOper k f)

/-- The channel records after a channel command. -/
theorem channelEdits_updChan {i : Instr} {s : State} (c : Nat) {f : Channel → Channel}
    (edit : ∀ ch, ChannelEdit s.cfg s.cps ch i (f ch)) :
    List.Forall₂ (fun ch ch' => ChannelEdit s.cfg s.cps ch i ch') s.ch (s.updChan c f).ch := by
  rw [State.updChan_ch]
  split
  · exact forall₂_modify (fun _ => .none) edit s.ch c
  · exact List.forall₂_same.mpr fun _ _ => .none

/-- The channel records after an operator command other than MUL_DT. -/
theorem channelEdits_updOper {i : Instr} {s : State} (c k : Nat) {f : Operator → Operator}
    (writes : WritesRegisters f) :
    List.Forall₂ (fun ch ch' => ChannelEdit s.cfg s.cps ch i ch') s.ch (s.updOper c k f).ch :=
  channelEdits_updChan c fun _ => by
    split
    · exact .registers writes
    · exact .none

/-- The channel records after any queue command. -/
theorem channelEdits_applyCommand (i : Instr) (s : State) :
    List.Forall₂ (fun ch ch' => ChannelEdit s.cfg s.cps ch i ch') s.ch (applyCommand i s).ch := by
  cases i with
  | key c on => cases on <;> exact channelEdits_updChan c.toNat fun _ => by constructor
  | freqLo c lo => exact channelEdits_updChan c.toNat fun _ => .freqLo
  | freqHi c fhi block => exact channelEdits_updChan c.toNat fun _ => .freqHi
  | algFb c alg fb => exact channelEdits_updChan c.toNat fun _ => .algFb
  | panLfo c pan ams pms => exact channelEdits_updChan c.toNat fun _ => .panLfo
  | mulDt c k mul dt =>
    refine channelEdits_updChan c.toNat fun ch => ?_
    split
    · exact .mulDt
    · exact .none
  | tl c k x => exact channelEdits_updOper c.toNat k.toNat fun _ => rfl
  | ar c k x => exact channelEdits_updOper c.toNat k.toNat fun _ => rfl
  | dr c k x => exact channelEdits_updOper c.toNat k.toNat fun _ => rfl
  | sr c k x => exact channelEdits_updOper c.toNat k.toNat fun _ => rfl
  | rr c k x => exact channelEdits_updOper c.toNat k.toNat fun _ => rfl
  | slKs c k sl ks => exact channelEdits_updOper c.toNat k.toNat fun _ => rfl
  | egtSsg c k ssg hold ignk => exact channelEdits_updOper c.toNat k.toNat fun _ => rfl
  | _ => exact List.forall₂_same.mpr fun _ _ => .none

@[simp] theorem length_ch_applyCommand (i : Instr) (s : State) :
    (applyCommand i s).ch.length = s.ch.length :=
  (channelEdits_applyCommand i s).length_eq.symm

/-- A frequency byte fills its latch, or, landing second, retunes (R125). -/
theorem Channel.retuneIfLanded_induction {P : Channel → Prop} {cps : BitVec 24} {ch : Channel}
    (latched : ch.bothLanded = false → P ch) (retuned : P (ch.retune cps)) :
    P (ch.retuneIfLanded cps) := by
  unfold Channel.retuneIfLanded
  cases h : ch.bothLanded with
  | false => exact latched h
  | true => exact retuned

/-- No edit adds or removes an operator. -/
theorem ChannelEdit.length_ops {p : Config.Params} {cps : BitVec 24} {ch ch' : Channel} {i : Instr}
    (h : ChannelEdit p cps ch i ch') : ch'.ops.length = ch.ops.length := by
  cases h with
  | keyOn => simp
  | keyOff => simp
  | freqLo => exact Channel.retuneIfLanded_induction (P := fun x => x.ops.length = _) (fun _ => rfl) (by simp)
  | freqHi => exact Channel.retuneIfLanded_induction (P := fun x => x.ops.length = _) (fun _ => rfl) (by simp)
  | mulDt => simp
  | registers writes => simp
  | none | algFb | panLfo => rfl

/-! ## Properties of every channel record -/

/-- `P` of every channel record, once the block is ready. -/
def EveryChannel (P : Config.Params → BitVec 24 → Channel → Prop) (s : State) : Prop :=
  s.ready = true → ∀ ch ∈ s.ch, P s.cfg s.cps ch

/-- A property of a channel record that holds at reset, that every edit keeps and that the channel's part of a
SAMPLETICK keeps, is an invariant of the machine. -/
theorem everyChannel_invariant {P : Config.Params → BitVec 24 → Channel → Prop}
    (initial : ∀ p cps, P p cps (Channel.initial p.ops))
    (edit : ∀ p cps ch i ch', P p cps ch → ChannelEdit p cps ch i ch' → P p cps ch')
    (sample : ∀ p cps am pm ch, P p cps ch → P p cps (ch.sampleTick p.ops am pm)) :
    Invariant (EveryChannel P) where
  reset s clk rate _ _ _ ch hch := by
    rw [List.eq_of_mem_replicate hch]; exact initial s.cfg _
  command i s hs ready := by
    rw [applyCommand_ready] at ready
    rw [applyCommand_cfg, applyCommand_cps]
    exact forall_mem_of_forall₂ (channelEdits_applyCommand i s) (hs ready) fun ch ch' => edit _ _ ch i ch'
  divider _ hs := hs
  sample s hs ready := List.forall_mem_map.mpr fun ch hch => sample _ _ _ _ ch (hs ready ch hch)
  bookkeeping _ _ _ _ _ _ hs := hs

/-- The record keeps the number `NCH` of channels (R20). -/
theorem channelCount_invariant : Invariant fun s => s.ready = true → s.ch.length = s.cfg.nch where
  reset _ _ _ _ _ _ := List.length_replicate
  command i s hs ready := by
    rw [applyCommand_ready] at ready
    rw [length_ch_applyCommand, applyCommand_cfg]; exact hs ready
  divider _ hs := hs
  sample s hs ready := by rw [sampleTick_ch, List.length_map]; exact hs ready
  bookkeeping _ _ _ _ _ _ hs := hs

/-- Two invariants together. -/
theorem Invariant.and {P Q : State → Prop} (hP : Invariant P) (hQ : Invariant Q) :
    Invariant fun s => P s ∧ Q s where
  reset s clk rate legal hs := ⟨hP.reset s clk rate legal hs.1, hQ.reset s clk rate legal hs.2⟩
  command i s hs := ⟨hP.command i s hs.1, hQ.command i s hs.2⟩
  divider s hs := ⟨hP.divider s hs.1, hQ.divider s hs.2⟩
  sample s hs := ⟨hP.sample s hs.1, hQ.sample s hs.2⟩
  bookkeeping s q b v script r hs :=
    ⟨hP.bookkeeping s q b v script r hs.1, hQ.bookkeeping s q b v script r hs.2⟩

/-! ## The envelope -/

/-- Every value of the attack curve is a 10-bit level (R143). -/
theorem attackCurve_le (p : Fin 41) : attackCurve p ≤ 1023 := by
  revert p; decide +kernel

theorem attackCurve_zero : attackCurve 0 = 1023 := by decide +kernel

/-- In Decay, Sustain, SustainHold and Release R45 asks only that the operator is enabled. -/
theorem Operator.EnvelopeOk.of_moving {o : Operator} (hoff : o.egMode ≠ .off) (hattack : o.egMode ≠ .attack)
    (henable : o.enable = true) (hpos : ∃ p : Fin 41, o.egAtkPos.toNat = p.val) : o.EnvelopeOk := by
  obtain ⟨p, hp⟩ := hpos
  exact ⟨by simp [hoff, henable], fun h => absurd h hoff, p, hp, fun h => absurd h hattack⟩

theorem Operator.EnvelopeOk.atkPos {o : Operator} (h : o.EnvelopeOk) :
    ∃ p : Fin 41, o.egAtkPos.toNat = p.val := by
  obtain ⟨-, -, p, hp, -⟩ := h
  exact ⟨p, hp⟩

theorem Operator.EnvelopeOk.enabled {o : Operator} (h : o.EnvelopeOk) (hoff : o.egMode ≠ .off) :
    o.enable = true := by
  cases he : o.enable with
  | true => rfl
  | false => exact absurd (h.1.mpr he) hoff

/-- Key-on starts the attack at the top of its curve (R156). -/
theorem Operator.envelopeOk_keyOn (o : Operator) : o.keyOn.EnvelopeOk :=
  ⟨by simp, by simp, 0, by simp, fun _ => attackCurve_zero.symm⟩

/-- Key-off moves an enabled operator to Release, or leaves it (R158). -/
theorem Operator.EnvelopeOk.keyOff {o : Operator} (h : o.EnvelopeOk) : o.keyOff.EnvelopeOk := by
  unfold Operator.keyOff
  split
  next hkeyed =>
    have hoff : o.egMode ≠ .off := by rintro hoff; simp [hoff, EgMode.keyed] at hkeyed
    exact .of_moving nofun nofun (h.enabled hoff) h.atkPos
  next => exact h

/-- The level follows the curve until it reaches 0, where Decay begins (R151). -/
theorem Operator.envelopeOk_attackStep (steps : Nat) {o : Operator} (hmode : o.egMode = .attack)
    (henable : o.enable = true) : (o.attackStep steps).EnvelopeOk := by
  have hpos : (BitVec.ofNat 6 (o.attackPos steps).val).toNat = (o.attackPos steps).val := by
    rw [BitVec.toNat_ofNat]; omega
  have hlevel : (BitVec.ofNat 10 (attackCurve (o.attackPos steps))).toNat = attackCurve (o.attackPos steps) := by
    have := attackCurve_le (o.attackPos steps)
    rw [BitVec.toNat_ofNat]; omega
  unfold Operator.attackStep
  dsimp only
  split
  · exact .of_moving nofun nofun henable ⟨_, hpos⟩
  · exact ⟨by simp [hmode, henable], by simp [hmode], o.attackPos steps, hpos, fun _ => hlevel⟩

/-- Decay stays, or ends in a sustain mode (R152, R153). -/
theorem Operator.envelopeOk_decayStep (steps : Nat) {o : Operator} (hmode : o.egMode = .decay)
    (henable : o.enable = true) (hpos : ∃ p : Fin 41, o.egAtkPos.toNat = p.val) :
    (o.decayStep steps).EnvelopeOk := by
  unfold Operator.decayStep
  dsimp only
  split
  · exact .of_moving (by dsimp only; split <;> simp) (by dsimp only; split <;> simp) henable hpos
  · exact .of_moving (by simp [hmode]) (by simp [hmode]) henable hpos

/-- Sustain and Release stay, or end in Off at the ceiling (R154, R155). -/
theorem Operator.envelopeOk_sustainReleaseStep (steps : Nat) {o : Operator} (hoff : o.egMode ≠ .off)
    (hattack : o.egMode ≠ .attack) (henable : o.enable = true)
    (hpos : ∃ p : Fin 41, o.egAtkPos.toNat = p.val) : (o.sustainReleaseStep steps).EnvelopeOk := by
  unfold Operator.sustainReleaseStep
  dsimp only
  split
  next hceiling =>
    obtain ⟨p, hp⟩ := hpos
    exact ⟨by simp, fun _ => hceiling, p, hp, nofun⟩
  next => exact .of_moving hoff hattack henable hpos

/-- One envelope step, mode by mode (R144). -/
theorem Operator.EnvelopeOk.egStep {o : Operator} (kcode : BitVec 5) (h : o.EnvelopeOk) :
    (o.egStep kcode).EnvelopeOk := by
  unfold Operator.egStep
  dsimp only
  split
  next => exact h
  next hmode => exact envelopeOk_attackStep _ hmode (h.enabled (by simp [hmode]))
  next hmode => exact envelopeOk_decayStep _ hmode (h.enabled (by simp [hmode])) h.atkPos
  next hmode =>
    exact envelopeOk_sustainReleaseStep _ (by simp [hmode]) (by simp [hmode]) (h.enabled (by simp [hmode]))
      h.atkPos
  next => exact h
  next hmode =>
    exact envelopeOk_sustainReleaseStep _ (by simp [hmode]) (by simp [hmode]) (h.enabled (by simp [hmode]))
      h.atkPos

/-- R45 of one channel record: it has `OPS` operators, each with its envelope in order. -/
def Channel.EnvelopesOk (p : Config.Params) (_ : BitVec 24) (ch : Channel) : Prop :=
  ch.ops.length = p.ops.count ∧ ∀ o ∈ ch.ops, o.EnvelopeOk

theorem Channel.envelopesOk_initial (p : Config.Params) (cps : BitVec 24) :
    (Channel.initial p.ops).EnvelopesOk p cps := by
  refine ⟨List.length_replicate, fun o ho => ?_⟩
  rw [List.eq_of_mem_replicate ho]
  exact ⟨by simp [Operator.initial], fun _ => rfl, 0, rfl, nofun⟩

/-- A write of registers touches no field that R45 speaks of. -/
theorem Operator.EnvelopeOk.registers {f : Operator → Operator} (writes : WritesRegisters f) {o : Operator}
    (h : o.EnvelopeOk) : (f o).EnvelopeOk := by
  rw [writes o]; exact h

theorem ChannelEdit.envelopesOk {p : Config.Params} {cps : BitVec 24} {ch ch' : Channel} {i : Instr}
    (h : ch.EnvelopesOk p cps) (edit : ChannelEdit p cps ch i ch') : ch'.EnvelopesOk p cps := by
  obtain ⟨hlen, hops⟩ := h
  refine ⟨edit.length_ops.trans hlen, ?_⟩
  have retuned (fnum : BitVec 11) (block : BitVec 3) :
      ∀ o ∈ ch.ops.map (recomputeInc cps fnum block), o.EnvelopeOk := List.forall_mem_map.mpr hops
  cases edit with
  | keyOn => exact List.forall_mem_map.mpr fun o _ => o.envelopeOk_keyOn
  | keyOff => exact List.forall_mem_map.mpr fun o ho => (hops o ho).keyOff
  | freqLo =>
    exact Channel.retuneIfLanded_induction (P := fun x => ∀ o ∈ x.ops, o.EnvelopeOk) (fun _ => hops)
      (retuned _ _)
  | freqHi =>
    exact Channel.retuneIfLanded_induction (P := fun x => ∀ o ∈ x.ops, o.EnvelopeOk) (fun _ => hops)
      (retuned _ _)
  | mulDt => exact Channel.forall_ops_updOper _ hops fun _ => id
  | registers writes => exact Channel.forall_ops_updOper _ hops fun _ => .registers writes
  | none | algFb | panLfo => exact hops

theorem Channel.EnvelopesOk.sampleTick {p : Config.Params} {cps : BitVec 24} {ch : Channel}
    (h : ch.EnvelopesOk p cps) (am : Nat) (pm : Int) : (ch.sampleTick p.ops am pm).EnvelopesOk p cps := by
  obtain ⟨hlen, hops⟩ := h
  exact ⟨by simpa using hlen,
    List.forall_mem_map.mpr fun o ho => .egStep (o := o.phaseStep _) _ (hops o ho)⟩

theorem envelopeInv_invariant : Invariant State.EnvelopeInv :=
  everyChannel_invariant (P := Channel.EnvelopesOk) Channel.envelopesOk_initial
    (fun _ _ _ _ _ => ChannelEdit.envelopesOk) fun _ _ am pm _ h => h.sampleTick am pm

/-- Settles O54: of the parts of an instruction, key-on, key-off and the envelope step are those that move what R45
speaks of, and each leaves it in order. -/
theorem envelopeInvariantKept : Obligations.EnvelopeInvariantKept :=
  ⟨envelopeInv_invariant.kept.1, envelopeInv_invariant.kept.2, fun m => by cases m <;> decide⟩

end Sys2Proof.Machine
end

section
/-!
SUPPORT. The channel's own invariants: the double buffer, the key code and the algorithm (R36), and the cached increments
(R127) with the commands that write them.
-/

namespace Sys2Proof.Machine

/-! ## The channel invariants -/

/-- `KCODE` on numbers: `(BLOCK << 2) | (FNUM >> 9)` is a sum, because `FNUM >> 9` is below 4 (R126). -/
theorem keyCode_toNat (block : BitVec 3) (fnum : BitVec 11) :
    (keyCode block fnum).toNat = block.toNat * 4 + fnum.toNat / 512 := by
  have hlow : (fnum.extractLsb' 9 2).toNat = fnum.toNat / 512 := by
    rw [BitVec.extractLsb'_toNat, Nat.shiftRight_eq_div_pow]; omega
  rw [keyCode, BitVec.toNat_append, ← Nat.shiftLeft_add_eq_or_of_lt (BitVec.isLt _), hlow, Nat.shiftLeft_eq]

/-- With two operators ALG_FB keeps one bit (R257). -/
theorem storedAlg_two_lt (alg : BitVec 3) : (storedAlg .two alg).toNat < 2 := by
  revert alg; decide

/-- R36 of one channel record, with its share of the layout (R20). -/
def Channel.InOrder (p : Config.Params) (_ : BitVec 24) (ch : Channel) : Prop :=
  ch.ops.length = p.ops.count ∧ ¬ (ch.loLanded = true ∧ ch.hiLanded = true) ∧
    ch.kcode.toNat = ch.block.toNat * 4 + ch.fnum.toNat / 512 ∧ (p.ops = .two → ch.alg.toNat < 2)

theorem Channel.inOrder_initial (p : Config.Params) (cps : BitVec 24) :
    (Channel.initial p.ops).InOrder p cps :=
  ⟨List.length_replicate, by simp [Channel.initial], by simp [Channel.initial], by simp [Channel.initial]⟩

/-- A retune empties both latches' flags and takes the key code from the frequency it makes active (R125, R126). -/
theorem Channel.inOrder_retune {p : Config.Params} {cps : BitVec 24} {ch : Channel}
    (hlen : ch.ops.length = p.ops.count) (halg : p.ops = .two → ch.alg.toNat < 2) :
    (ch.retune cps).InOrder p cps :=
  ⟨by simpa using hlen, by simp, by simp [keyCode_toNat], halg⟩

/-- A byte that does not retune leaves at most its own flag set (R125). -/
theorem not_bothLanded {ch : Channel} (h : ch.bothLanded = false) :
    ¬ (ch.loLanded = true ∧ ch.hiLanded = true) := by
  simpa [Channel.bothLanded] using h

theorem ChannelEdit.inOrder {p : Config.Params} {cps : BitVec 24} {ch ch' : Channel} {i : Instr}
    (h : ch.InOrder p cps) (edit : ChannelEdit p cps ch i ch') : ch'.InOrder p cps := by
  have hlen' := edit.length_ops.trans h.1
  have ⟨hlen, hlanded, hkcode, halg⟩ := h
  cases edit with
  | none => exact h
  | freqLo =>
    exact Channel.retuneIfLanded_induction (P := Channel.InOrder p cps)
      (fun one => ⟨hlen, not_bothLanded one, hkcode, halg⟩) (Channel.inOrder_retune hlen halg)
  | freqHi =>
    exact Channel.retuneIfLanded_induction (P := Channel.InOrder p cps)
      (fun one => ⟨hlen, not_bothLanded one, hkcode, halg⟩) (Channel.inOrder_retune hlen halg)
  | algFb => exact ⟨hlen, hlanded, hkcode, fun two => by rw [two]; exact storedAlg_two_lt _⟩
  | keyOn | keyOff | panLfo | mulDt | registers => exact ⟨hlen', hlanded, hkcode, halg⟩

theorem Channel.InOrder.sampleTick {p : Config.Params} {cps : BitVec 24} {ch : Channel}
    (h : ch.InOrder p cps) (am : Nat) (pm : Int) : (ch.sampleTick p.ops am pm).InOrder p cps := by
  obtain ⟨hlen, rest⟩ := h
  exact ⟨by simpa using hlen, rest⟩

/-- The invariant of R36 and R20, channel by channel. -/
theorem State.channelInv_iff (s : State) :
    ((s.ready = true → s.ch.length = s.cfg.nch) ∧ EveryChannel Channel.InOrder s) ↔ s.ChannelInv := by
  constructor
  · rintro ⟨hcount, hch⟩ ready
    exact ⟨⟨hcount ready, fun ch h => (hch ready ch h).1⟩, fun ch h => (hch ready ch h).2⟩
  · intro h
    refine ⟨fun ready => ?_, fun ready ch hch => ?_⟩
    · obtain ⟨⟨hcount, -⟩, -⟩ := h ready
      exact hcount
    · obtain ⟨⟨-, hlen⟩, hrest⟩ := h ready
      exact ⟨hlen ch hch, hrest ch hch⟩

/-- An invariant in other words. -/
theorem Invariant.of_iff {P Q : State → Prop} (hP : Invariant P) (h : ∀ s, P s ↔ Q s) : Invariant Q := by
  have hPQ : P = Q := funext fun s => propext (h s)
  rwa [← hPQ]

theorem channelInv_invariant : Invariant State.ChannelInv :=
  (channelCount_invariant.and
    (everyChannel_invariant Channel.inOrder_initial (fun _ _ _ _ _ => ChannelEdit.inOrder)
      fun _ _ am pm _ h => h.sampleTick am pm)).of_iff State.channelInv_iff

/-- Settles O55: a frequency byte that lands second goes through `retune`, which clears both flags and writes the key
code; ALG_FB masks the algorithm; nothing else touches what R36 speaks of. -/
theorem channelInvariantKept : Obligations.ChannelInvariantKept := channelInv_invariant.kept

/-! ## Frames of the operator's steps -/

/-- Key-off writes the mode and the step accumulator, and nothing else (R158). -/
theorem Operator.keyOff_frame (o : Operator) :
    o.keyOff = { o with egMode := o.keyOff.egMode, egAcc := o.keyOff.egAcc } := by
  unfold Operator.keyOff
  split <;> rfl

/-- The envelope step writes the envelope's own fields and the enable flag, and nothing else (R144). -/
theorem Operator.egStep_frame (kcode : BitVec 5) (o : Operator) :
    o.egStep kcode =
      { o with
        egMode := (o.egStep kcode).egMode, egLevel := (o.egStep kcode).egLevel
        egAcc := (o.egStep kcode).egAcc, egAtkPos := (o.egStep kcode).egAtkPos
        enable := (o.egStep kcode).enable } := by
  have attack (steps : Nat) (o : Operator) : o.attackStep steps =
      { o with
        egMode := (o.attackStep steps).egMode, egLevel := (o.attackStep steps).egLevel
        egAcc := (o.attackStep steps).egAcc, egAtkPos := (o.attackStep steps).egAtkPos } := by
    unfold Operator.attackStep; dsimp only; split <;> rfl
  have decay (steps : Nat) (o : Operator) : o.decayStep steps =
      { o with
        egMode := (o.decayStep steps).egMode, egLevel := (o.decayStep steps).egLevel
        egAcc := (o.decayStep steps).egAcc } := by
    unfold Operator.decayStep; dsimp only; split <;> rfl
  have sustainRelease (steps : Nat) (o : Operator) : o.sustainReleaseStep steps =
      { o with
        egMode := (o.sustainReleaseStep steps).egMode, egLevel := (o.sustainReleaseStep steps).egLevel
        egAcc := (o.sustainReleaseStep steps).egAcc, enable := (o.sustainReleaseStep steps).enable } := by
    unfold Operator.sustainReleaseStep; dsimp only; split <;> rfl
  unfold Operator.egStep
  dsimp only
  split
  next => rfl
  next => rw [attack]
  next => rw [decay]
  next => rw [sustainRelease]
  next => rfl
  next => rw [sustainRelease]

@[simp] theorem Operator.keyOff_inc (o : Operator) : o.keyOff.inc = o.inc := by rw [Operator.keyOff_frame]

@[simp] theorem Operator.egStep_inc (kcode : BitVec 5) (o : Operator) : (o.egStep kcode).inc = o.inc := by
  rw [Operator.egStep_frame]

/-! ## The cached increments -/

/-- The detuned mantissa on numbers (R127). -/
theorem detuned_eq (fnum : BitVec 11) (dt : BitVec 3) :
    detuned fnum dt =
      if dt.toNat / 4 = 1 then fnum.toNat - fnum.toNat * (dt.toNat % 4) / 512
      else fnum.toNat + fnum.toNat * (dt.toNat % 4) / 512 := by
  have hsize : (dt.extractLsb' 0 2).toNat = dt.toNat % 4 := by simp
  have hsign : dt.getLsbD 2 = decide (dt.toNat / 4 = 1) := by revert dt; decide
  simp only [detuned, hsize, hsign, Nat.shiftRight_eq_div_pow, decide_eq_true_eq]

theorem mul2_eq (mul : BitVec 4) : mul2 mul = if mul.toNat = 0 then 1 else 2 * mul.toNat := by
  revert mul; decide

/-- The machine's increment is that of R127 on natural numbers. -/
theorem incOf_toNat (cps : BitVec 24) (fnum : BitVec 11) (block : BitVec 3) (mul : BitVec 4) (dt : BitVec 3) :
    (incOf cps fnum block mul dt).toNat =
      ruleInc cps.toNat fnum.toNat block.toNat mul.toNat dt.toNat := by
  rw [incOf, BitVec.toNat_ofNat, detuned_eq, mul2_eq, Nat.shiftRight_eq_div_pow]
  rfl

/-- The operator's cached increment is that of the given frequency (R39, R127). -/
def Operator.IncrementOk (cps : BitVec 24) (fnum : BitVec 11) (block : BitVec 3) (o : Operator) : Prop :=
  o.inc.toNat = ruleInc cps.toNat fnum.toNat block.toNat o.mul.toNat o.dt.toNat

/-- R39 of one channel record: the frequency is the channel's active one. -/
def Channel.IncrementsOk (_ : Config.Params) (cps : BitVec 24) (ch : Channel) : Prop :=
  ∀ o ∈ ch.ops, o.IncrementOk cps ch.fnum ch.block

theorem incrementOk_recomputeInc (cps : BitVec 24) (fnum : BitVec 11) (block : BitVec 3) (o : Operator) :
    (recomputeInc cps fnum block o).IncrementOk cps fnum block := incOf_toNat cps fnum block o.mul o.dt

/-- Frequency 0 has increment 0, which is where `reset` leaves both (R52, R129). -/
theorem Channel.incrementsOk_initial (p : Config.Params) (cps : BitVec 24) :
    (Channel.initial p.ops).IncrementsOk p cps := by
  intro o ho
  rw [List.eq_of_mem_replicate ho]
  simp [Operator.IncrementOk, ruleInc, Channel.initial, Operator.initial]

theorem Channel.incrementsOk_retune (p : Config.Params) (cps : BitVec 24) (ch : Channel) :
    (ch.retune cps).IncrementsOk p cps :=
  List.forall_mem_map.mpr fun o _ => incrementOk_recomputeInc cps _ _ o

theorem ChannelEdit.incrementsOk {p : Config.Params} {cps : BitVec 24} {ch ch' : Channel} {i : Instr}
    (h : ch.IncrementsOk p cps) (edit : ChannelEdit p cps ch i ch') : ch'.IncrementsOk p cps := by
  cases edit with
  | keyOn => exact List.forall_mem_map.mpr h
  | keyOff =>
    refine List.forall_mem_map.mpr fun o ho => ?_
    rw [Operator.keyOff_frame]; exact h o ho
  | freqLo =>
    exact Channel.retuneIfLanded_induction (P := Channel.IncrementsOk p cps) (fun _ => h)
      (Channel.incrementsOk_retune p cps _)
  | freqHi =>
    exact Channel.retuneIfLanded_induction (P := Channel.IncrementsOk p cps) (fun _ => h)
      (Channel.incrementsOk_retune p cps _)
  | mulDt => exact Channel.forall_ops_updOper _ h fun o _ => incrementOk_recomputeInc cps _ _ _
  | registers writes => exact Channel.forall_ops_updOper _ h fun o ho => by rw [writes o]; exact ho
  | none | algFb | panLfo => exact h

theorem Channel.IncrementsOk.sampleTick {p : Config.Params} {cps : BitVec 24} {ch : Channel}
    (h : ch.IncrementsOk p cps) (am : Nat) (pm : Int) : (ch.sampleTick p.ops am pm).IncrementsOk p cps := by
  refine List.forall_mem_map.mpr fun o ho => ?_
  rw [Operator.egStep_frame]; exact h o ho

theorem incrementInv_invariant : Invariant State.IncrementInv :=
  everyChannel_invariant (P := Channel.IncrementsOk) Channel.incrementsOk_initial
    (fun _ _ _ _ _ => ChannelEdit.incrementsOk) fun _ _ am pm _ h => h.sampleTick am pm

/-- Settles O57: `retune` and MUL_DT recompute what they make stale, and nothing else writes a frequency, a multiple, a
detune or an increment. -/
theorem incrementInvariantKept : Obligations.IncrementInvariantKept := incrementInv_invariant.kept

/-! ## Who writes them -/

/-- The active frequency, its key code, and the increments of the operators. -/
def Channel.tuning (ch : Channel) : BitVec 11 × BitVec 3 × BitVec 5 × List (BitVec 20) :=
  (ch.fnum, ch.block, ch.kcode, ch.ops.map Operator.inc)

/-- The tuning of a record whose operators alone changed, each keeping its increment. -/
theorem Channel.tuning_with_ops {ch : Channel} {l : List Operator}
    (h : l.map Operator.inc = ch.ops.map Operator.inc) : ({ ch with ops := l } : Channel).tuning = ch.tuning := by
  simp only [Channel.tuning, h]

/-- The edits of all other commands keep the tuning (R125, R127). -/
theorem ChannelEdit.tuning_eq {p : Config.Params} {cps : BitVec 24} {ch ch' : Channel} {i : Instr}
    (edit : ChannelEdit p cps ch i ch') (hlo : ∀ c lo, i ≠ .freqLo c lo)
    (hhi : ∀ c fhi block, i ≠ .freqHi c fhi block) (hmulDt : ∀ c k mul dt, i ≠ .mulDt c k mul dt) :
    ch'.tuning = ch.tuning := by
  cases edit with
  | freqLo => exact absurd rfl (hlo _ _)
  | freqHi => exact absurd rfl (hhi _ _ _)
  | mulDt => exact absurd rfl (hmulDt _ _ _ _)
  | keyOn => simp [Channel.tuning]
  | keyOff => simp [Channel.tuning]
  | registers writes => exact Channel.tuning_with_ops (ch.map_ops_updOper _ fun o => by rw [writes o])
  | none | algFb | panLfo => rfl

@[simp] theorem Channel.tuning_sampleTick (ops : Config.OperatorCount) (am : Nat) (pm : Int) (ch : Channel) :
    (ch.sampleTick ops am pm).tuning = ch.tuning := by
  simp [Channel.tuning]

/-- Settles O23: no other edit of a channel record, and no SAMPLETICK, changes its tuning. -/
theorem onlyRetuneAndMulDtWriteIncrements : Obligations.OnlyRetuneAndMulDtWriteIncrements := by
  constructor
  · intro i s t queued hlo hhi hmulDt h
    rw [exec_queueCommand queued] at h
    cases h
    exact map_eq_of_forall₂ (g := Channel.tuning) (channelEdits_applyCommand i s) fun ch ch' edit =>
      edit.tuning_eq hlo hhi hmulDt
  · intro s
    exact List.map_map.trans (List.map_congr_left fun ch _ => ch.tuning_sampleTick _ _ _)

end Sys2Proof.Machine
end

section
/-!
SUPPORT. The ranges of the sample path (R34, R35, R241): the magnitude table falls, the volume stage never amplifies, an
operator puts out at most 4096, and each sum is bounded by its number of terms. Settled here: the ranges are kept.
-/

namespace Sys2Proof.Machine

/-! ## Signed ranges -/

theorem within_iff_natAbs {b : Nat} {v : Int} : Within b v ↔ v.natAbs ≤ b := by
  unfold Within; omega

theorem within_zero (b : Nat) : Within b 0 := by unfold Within; omega

theorem Within.mono {b c v : Int} (h : Within b v) (hbc : b ≤ c) : Within c v := by
  unfold Within at *; omega

/-- A signed register holds a quantity within its range unchanged. -/
theorem toInt_ofInt_of_within {w : Nat} {b v : Int} (h : Within b v) (hw : 0 < w) (hb : b < 2 ^ (w - 1)) :
    (BitVec.ofInt w v).toInt = v := by
  obtain ⟨hlow, hhigh⟩ := h
  exact BitVec.toInt_ofInt_eq_self hw (by omega) (by omega)

/-- A sum is bounded by the number of its terms. -/
theorem within_sum {b : Nat} : ∀ {l : List Int}, (∀ v ∈ l, Within b v) → Within (b * l.length) l.sum
  | [], _ => by simp [Within]
  | v :: l, h => by
    obtain ⟨hv, hl⟩ := List.forall_mem_cons.mp h
    have hsum := within_sum hl
    simp only [Within, List.sum_cons, List.length_cons, Nat.cast_add, Nat.cast_one, mul_add] at *
    omega

/-! ## Magnitudes -/

/-- `EXPTAB` falls (R101). -/
theorem expTab_antitone : Antitone expTab :=
  Fin.antitone_iff_succ_le.mpr (by decide +kernel)

/-- `EXPTAB` covers one octave, ends included at the top (R100). -/
theorem expTab_octave (i : Fin 256) : expTab 0 / 2 ≤ expTab i ∧ expTab i ≤ 262144 := by
  revert i; decide +kernel

/-- Within an octave the table falls; from one octave to the next the shift halves. -/
theorem linMag_succ_le (a : Nat) : linMag (a + 1) ≤ linMag a := by
  unfold linMag
  split
  next habove =>
    rw [if_pos (by omega : a ≤ 4095), Nat.shiftRight_eq_div_pow, Nat.shiftRight_eq_div_pow]
    by_cases hwrap : (a + 1) % 256 = 0
    · have hzero : Fin.ofNat 256 (a + 1) = 0 := Fin.ext hwrap
      have hoctave : (a + 1) / 256 = a / 256 + 1 := by omega
      rw [hzero, hoctave, pow_succ', ← Nat.div_div_eq_div_mul]
      exact Nat.div_le_div_right (expTab_octave _).1
    · have hoctave : (a + 1) / 256 = a / 256 := by omega
      have hnext : Fin.ofNat 256 a ≤ Fin.ofNat 256 (a + 1) := by
        rw [Fin.le_def, Fin.val_ofNat, Fin.val_ofNat]; omega
      rw [hoctave]
      exact Nat.div_le_div_right (expTab_antitone hnext)
  next => exact Nat.zero_le _

/-- `LINMAG` falls (R102). -/
theorem linMag_antitone : Antitone linMag := antitone_nat_of_succ_le linMag_succ_le

theorem linMag_le (a : Nat) : linMag a ≤ 262144 :=
  (linMag_antitone (Nat.zero_le a)).trans (expTab_octave 0).2

theorem linMag_of_ceiling_lt {a : Nat} (h : 4095 < a) : linMag a = 0 := if_neg (by omega)

/-- The search ends at a magnitude that does not exceed `m`, if its upper end has one and the fuel halves the
interval away (R106). -/
theorem linMag_searchAtt_le (m : Nat) :
    ∀ fuel lo hi : Nat, lo ≤ hi → hi - lo < 2 ^ fuel → linMag hi ≤ m → linMag (searchAtt m fuel lo hi) ≤ m
  | 0, lo, hi, hle, hfuel, hhi => by
    have : lo = hi := by omega
    simpa [searchAtt, this] using hhi
  | fuel + 1, lo, hi, hle, hfuel, hhi => by
    rw [pow_succ] at hfuel
    unfold searchAtt
    split
    next hlt =>
      dsimp only
      split
      next hmid => exact linMag_searchAtt_le m fuel _ _ (by omega) (by omega) hmid
      next => exact linMag_searchAtt_le m fuel _ _ (by omega) (by omega) hhi
    next hend =>
      have : lo = hi := by omega
      rwa [this]

theorem linMag_attOf_le (m : Nat) : linMag (attOf m) ≤ m :=
  linMag_searchAtt_le m 13 0 4096 (by decide) (by decide) (by simp [linMag_of_ceiling_lt])

/-- The magnitude of a log word's linear value (R105). -/
theorem natAbs_logToLinear (L shift : Nat) : (logToLinear L shift).natAbs = linMag (L / 2) >>> shift := by
  unfold logToLinear
  rw [Nat.shiftRight_one]
  dsimp only
  split
  next habove => simp [linMag_of_ceiling_lt habove]
  next =>
    split
    · rw [Int.natAbs_neg, Int.natAbs_natCast]
    · exact Int.natAbs_natCast _

/-- The volume stage never amplifies: it adds to the attenuation of its input (R239). -/
theorem natAbs_volumeStage_le (vol : BitVec 12) (m : Int) : (volumeStage vol m).natAbs ≤ m.natAbs := by
  have hatt : attOf m.natAbs ≤ (linearToLog m + 2 * vol.toNat) / 2 := by
    unfold linearToLog; omega
  calc (volumeStage vol m).natAbs
      = linMag ((linearToLog m + 2 * vol.toNat) / 2) := natAbs_logToLinear _ 0
    _ ≤ linMag (attOf m.natAbs) := linMag_antitone hatt
    _ ≤ m.natAbs := linMag_attOf_le _

/-! ## One channel -/

/-- An operator puts out at most `2^18 >> 6` (R186). -/
theorem Operator.output_within (o : Operator) (am : Nat) (p : BitVec 10) : Within 4096 (o.output am p) := by
  unfold Operator.output
  dsimp only
  split
  · refine within_iff_natAbs.mpr ?_
    rw [natAbs_logToLinear, Nat.shiftRight_eq_div_pow]
    exact Nat.div_le_div_right (c := 2 ^ 6) (linMag_le _)
  · exact within_zero 4096

theorem Channel.evalFrom_within (ch : Channel) (ops : Config.OperatorCount) (am : Nat) :
    ∀ (rest : List Operator) (outs : List Int), (∀ v ∈ outs, Within 4096 v) →
      ∀ v ∈ ch.evalFrom ops am rest outs, Within 4096 v
  | [], _, h => h
  | o :: rest, _, h =>
    Channel.evalFrom_within ch ops am rest _ <|
      List.forall_mem_append.mpr ⟨h, List.forall_mem_singleton.mpr (o.output_within am _)⟩

/-- Every output of a channel, an operator that is not there included. -/
theorem Channel.outputs_getD_within (ch : Channel) (ops : Config.OperatorCount) (am k : Nat) :
    Within 4096 ((ch.outputs ops am).getD k 0) := by
  rw [List.getD_eq_getElem?_getD]
  cases h : (ch.outputs ops am)[k]? with
  | none => exact within_zero 4096
  | some v => exact ch.evalFrom_within ops _ ch.ops [] nofun v (List.mem_of_getElem? h)

/-- No algorithm has more than four carriers (R192). -/
theorem carriersOf_length_le (ops : Config.OperatorCount) (alg : BitVec 3) :
    (carriersOf ops alg).length ≤ 4 := by
  revert alg; cases ops <;> decide

/-- The channel sample before it is stored (R190, R194). -/
theorem Channel.carrierSum_within (ch : Channel) (ops : Config.OperatorCount) (am : Nat) :
    Within 16384 (sumAt (ch.outputs ops am) (carriersOf ops ch.alg)) := by
  have hlen := carriersOf_length_le ops ch.alg
  refine (within_sum (b := 4096) (List.forall_mem_map.mpr fun k _ => ch.outputs_getD_within ops am k)).mono ?_
  rw [List.length_map]; omega

/-- The ranges of R34 and R35. -/
def Channel.RangesOk (_ : Config.Params) (_ : BitVec 24) (ch : Channel) : Prop :=
  Within 4096 ch.fbh1.toInt ∧ Within 4096 ch.fbh2.toInt ∧ Within 16384 ch.chout.toInt

theorem Channel.rangesOk_initial (p : Config.Params) (cps : BitVec 24) :
    (Channel.initial p.ops).RangesOk p cps :=
  ⟨within_zero 4096, within_zero 4096, within_zero 16384⟩

/-- Only key-on writes the history, with 0 (R157). -/
theorem ChannelEdit.rangesOk {p : Config.Params} {cps : BitVec 24} {ch ch' : Channel} {i : Instr}
    (h : ch.RangesOk p cps) (edit : ChannelEdit p cps ch i ch') : ch'.RangesOk p cps := by
  cases edit with
  | keyOn =>
    obtain ⟨-, -, hchout⟩ := h
    exact ⟨within_zero 4096, within_zero 4096, hchout⟩
  | freqLo => exact Channel.retuneIfLanded_induction (P := Channel.RangesOk p cps) (fun _ => h) h
  | freqHi => exact Channel.retuneIfLanded_induction (P := Channel.RangesOk p cps) (fun _ => h) h
  | none | keyOff | algFb | panLfo | mulDt | registers => exact h

/-- A SAMPLETICK stores values that fit their registers (R34, R35). -/
theorem Channel.RangesOk.sampleTick {p : Config.Params} {cps : BitVec 24} {ch : Channel}
    (h : ch.RangesOk p cps) (am : Nat) (pm : Int) : (ch.sampleTick p.ops am pm).RangesOk p cps := by
  obtain ⟨hfbh1, -, -⟩ := h
  have hout := ch.outputs_getD_within p.ops am 0
  have hsum := ch.carrierSum_within p.ops am
  refine ⟨?_, hfbh1, ?_⟩
  · rw [Channel.sampleTick_fbh1, toInt_ofInt_of_within hout (by decide) (by decide)]; exact hout
  · rw [Channel.sampleTick_chout, toInt_ofInt_of_within hsum (by decide) (by decide)]; exact hsum

/-! ## The outputs -/

/-- The mix of one side, from the ranges of the channel samples (R238, R241). -/
theorem mixOf_within (side : Nat) {chs : List Channel} (h : ∀ ch ∈ chs, Within 16384 ch.chout.toInt) :
    Within (16384 * chs.length) (mixOf side chs) := by
  have hterm : ∀ ch ∈ chs, Within (16384 : Nat) (if ch.pan.getLsbD side then ch.chout.toInt else 0) := by
    intro ch hch
    split
    · exact h ch hch
    · exact within_zero 16384
  simpa [mixOf] using within_sum (List.forall_mem_map.mpr hterm)

/-- What a SAMPLETICK stores in an output register, for at most eight channels (R241). -/
theorem output_within (vol : BitVec 12) {mix : Int} {n : Nat} (hmix : Within (16384 * n) mix) (hn : n ≤ 8) :
    Within 131072 (BitVec.ofInt 32 (volumeStage vol mix)).toInt := by
  have hmix : mix.natAbs ≤ 131072 := by unfold Within at hmix; omega
  have hvol : Within 131072 (volumeStage vol mix) :=
    within_iff_natAbs.mpr ((natAbs_volumeStage_le vol mix).trans hmix)
  rw [toInt_ofInt_of_within hvol (by decide) (by decide)]; exact hvol

@[simp] theorem applyCommand_outL (i : Instr) (s : State) : (applyCommand i s).outL = s.outL := by
  rw [applyCommand_frame]

@[simp] theorem applyCommand_outR (i : Instr) (s : State) : (applyCommand i s).outR = s.outR := by
  rw [applyCommand_frame]

/-- The range of the output pair (R241). -/
def State.OutputsOk (s : State) : Prop :=
  s.ready = true → Within 131072 s.outL.toInt ∧ Within 131072 s.outR.toInt

/-- The layout and the ranges of the channel records, which the outputs are made from. -/
def State.ChannelRanges (s : State) : Prop :=
  (s.ready = true → s.ch.length = s.cfg.nch) ∧ EveryChannel Channel.RangesOk s

theorem channelRanges_invariant : Invariant State.ChannelRanges :=
  channelCount_invariant.and
    (everyChannel_invariant Channel.rangesOk_initial (fun _ _ _ _ _ => ChannelEdit.rangesOk)
      fun _ _ am pm _ h => h.sampleTick am pm)

/-- The ranges, part by part. -/
theorem State.rangeInv_iff (s : State) :
    (s.cfg.Legal ∧ s.ChannelRanges ∧ s.OutputsOk) ↔ s.RangeInv := by
  constructor
  · rintro ⟨legal, ⟨hcount, hch⟩, hout⟩
    exact ⟨legal, fun ready => ⟨hcount ready, hch ready, hout ready⟩⟩
  · rintro ⟨legal, h⟩
    exact ⟨legal, ⟨fun ready => (h ready).1, fun ready => (h ready).2.1⟩, fun ready => (h ready).2.2⟩

/-- A SAMPLETICK under legal parameters puts out what R241 allows. -/
theorem State.ChannelRanges.outputsOk_sampleTick {s : State} (legal : s.cfg.Legal)
    (h : (Machine.sampleTick s).ChannelRanges) : (Machine.sampleTick s).OutputsOk := by
  intro ready
  obtain ⟨hcount, hranges⟩ := h
  have hmix (side : Nat) := mixOf_within side fun ch hch => (hranges ready ch hch).2.2
  have hlen : (Machine.sampleTick s).ch.length ≤ 8 := (hcount ready).trans_le legal.2
  exact ⟨output_within s.vol (hmix 1) hlen, output_within s.vol (hmix 0) hlen⟩

theorem rangeInv_invariant : Invariant State.RangeInv :=
  have parts : Invariant fun s => s.cfg.Legal ∧ s.ChannelRanges ∧ s.OutputsOk :=
    { reset := fun s clk rate legal ⟨hcfg, ranges, _⟩ =>
        ⟨hcfg, channelRanges_invariant.reset s clk rate legal ranges,
          fun _ => ⟨within_zero 131072, within_zero 131072⟩⟩
      command := fun i s ⟨hcfg, ranges, outputs⟩ =>
        ⟨by simpa using hcfg, channelRanges_invariant.command i s ranges,
          by simpa [State.OutputsOk] using outputs⟩
      divider := fun _ hs => hs
      sample := fun s ⟨hcfg, ranges, _⟩ =>
        have sampled := channelRanges_invariant.sample s ranges
        ⟨hcfg, sampled, sampled.outputsOk_sampleTick hcfg⟩
      bookkeeping := fun _ _ _ _ _ _ hs => hs }
  parts.of_iff State.rangeInv_iff

/-- Settles O56: a SAMPLETICK stores only sums of bounded outputs, and the volume stage never amplifies. -/
theorem sampleRangesKept : Obligations.SampleRangesKept := rangeInv_invariant.kept

end Sys2Proof.Machine
end

section
/-!
SUPPORT. What a chip clock and a run of samples leave alone. Settled here: the queue's order, the latches' owners, samples
with nothing queued, and the state after `reset`.
-/

namespace Sys2Proof.Machine

/-! ## One chip clock -/

@[simp] theorem subtick_cfg (s : State) : (subtick s).cfg = s.cfg := by rw [subtick_frame]
@[simp] theorem subtick_clkNum (s : State) : (subtick s).clkNum = s.clkNum := by rw [subtick_frame]
@[simp] theorem subtick_clkDen (s : State) : (subtick s).clkDen = s.clkDen := by rw [subtick_frame]
@[simp] theorem subtick_cps (s : State) : (subtick s).cps = s.cps := by rw [subtick_frame]
@[simp] theorem subtick_vol (s : State) : (subtick s).vol = s.vol := by rw [subtick_frame]
@[simp] theorem subtick_script (s : State) : (subtick s).script = s.script := by rw [subtick_frame]

/-- A chip clock takes at most the head of the queue (R214, R215). -/
theorem subtick_queue (s : State) : ∃ k, (subtick s).queue = s.queue.drop k := by
  unfold subtick
  rcases s.countDown.acceptHead_cases with ⟨-, h⟩ | ⟨e, rest, -, hq, h⟩
  · exact ⟨0, by rw [h]; rfl⟩
  · rw [State.countDown_queue] at hq
    exact ⟨1, by rw [h, applyCommand_queue, hq]; rfl⟩

/-- With nothing queued a chip clock only counts down (R217). -/
theorem subtick_of_queue_nil {s : State} (hq : s.queue = []) : subtick s = s.countDown := by
  unfold subtick
  rcases s.countDown.acceptHead_cases with ⟨-, h⟩ | ⟨e, rest, -, hcons, -⟩
  · exact h
  · rw [State.countDown_queue, hq] at hcons; cases hcons

/-! ## The queue -/

/-- Samples take entries from the head, and do nothing else to the queue. -/
theorem generateSamples_queue (n : Nat) (s : State) :
    ∃ k, (generateSamples n s).1.queue = s.queue.drop k := by
  refine generateSamples_induction (P := fun x => ∃ k, x.queue = s.queue.drop k) (fun _ h => h)
    (fun x h => ?_) (fun _ h => h) n s ⟨0, rfl⟩
  obtain ⟨k, hk⟩ := h
  obtain ⟨j, hj⟩ := subtick_queue x
  exact ⟨k + j, by rw [hj, hk, List.drop_drop]⟩

/-- Settles O12: what each instruction does to the queue, read off the forms of its next state. -/
theorem queueIsFirstInFirstOut : Obligations.QueueIsFirstInFirstOut := by
  intro i s t h
  cases exec_eq_next_iff.mp h with
  | command queued =>
    refine ⟨?_, ?_, ?_, fun _ _ _ _ => applyCommand_queue i s⟩
    · rintro a v rfl; cases queued
    · rintro clk rate rfl; cases queued
    · rintro (⟨n, rfl⟩ | rfl) <;> cases queued
  | reset => exact ⟨nofun, fun _ _ _ => rfl, by simp, fun _ hne => absurd rfl (hne _ _)⟩
  | write => exact ⟨fun a v he => by cases he; rfl, nofun, by simp, fun hne => absurd rfl (hne _ _)⟩
  | read => exact ⟨nofun, nofun, by simp, fun _ _ _ _ => rfl⟩
  | generate =>
    exact ⟨nofun, nofun, fun _ => generateSamples_queue _ s, fun _ _ hne => absurd rfl (hne _)⟩
  | setVolume => exact ⟨nofun, nofun, by simp, fun _ _ _ _ => rfl⟩
  | tick => exact ⟨nofun, nofun, fun _ => generateSamples_queue 1 s, fun _ _ _ hne => absurd rfl hne⟩

/-! ## The latches -/

/-- The parameters, the host's script, the clock latches and the volume of `t` are those of `s`. -/
def SameLatches (s t : State) : Prop :=
  t.cfg = s.cfg ∧ t.script = s.script ∧ t.clkNum = s.clkNum ∧ t.clkDen = s.clkDen ∧ t.cps = s.cps ∧
    t.vol = s.vol

/-- No chip clock and no SAMPLETICK writes a latch. -/
theorem generateSamples_sameLatches (n : Nat) (s : State) : SameLatches s (generateSamples n s).1 :=
  generateSamples_induction (P := SameLatches s) (fun _ h => h)
    (fun _ h => by simpa [SameLatches] using h) (fun _ h => h) n s ⟨rfl, rfl, rfl, rfl, rfl, rfl⟩

/-- The divider's remainder, the LFO counters and the output pair of `t` are those of `s`. -/
def SameRunning (s t : State) : Prop :=
  t.clkAcc = s.clkAcc ∧ t.lfoAmCnt = s.lfoAmCnt ∧ t.lfoPmCnt = s.lfoPmCnt ∧ t.outL = s.outL ∧
    t.outR = s.outR

/-- No queue command writes a latch, the divider, an LFO counter or an output. -/
theorem applyCommand_sameLatches (i : Instr) (s : State) :
    SameLatches s (applyCommand i s) ∧ SameRunning s (applyCommand i s) := by
  rw [applyCommand_frame]
  exact ⟨⟨rfl, rfl, rfl, rfl, rfl, rfl⟩, rfl, rfl, rfl, rfl, rfl⟩

/-- Settles O28: the owner of each element, read off the forms of the next state. -/
theorem latchesChangeOnlyAtTheirOperation : Obligations.LatchesChangeOnlyAtTheirOperation := by
  intro i s t h
  cases exec_eq_next_iff.mp h with
  | command queued =>
    obtain ⟨⟨hcfg, hscript, hnum, hden, hcps, hvol⟩, running⟩ := applyCommand_sameLatches i s
    exact ⟨hcfg, hscript, fun _ => ⟨hnum, hden, hcps, fun _ => hvol, fun _ _ => running⟩⟩
  | reset => exact ⟨rfl, rfl, fun hne => absurd rfl (hne _ _)⟩
  | write => exact ⟨rfl, rfl, fun _ => ⟨rfl, rfl, rfl, fun _ => rfl, fun _ _ => ⟨rfl, rfl, rfl, rfl, rfl⟩⟩⟩
  | read => exact ⟨rfl, rfl, fun _ => ⟨rfl, rfl, rfl, fun _ => rfl, fun _ _ => ⟨rfl, rfl, rfl, rfl, rfl⟩⟩⟩
  | generate =>
    obtain ⟨hcfg, hscript, hnum, hden, hcps, hvol⟩ := generateSamples_sameLatches _ s
    exact ⟨hcfg, hscript, fun _ => ⟨hnum, hden, hcps, fun _ => hvol, fun hne => absurd rfl (hne _)⟩⟩
  | setVolume =>
    exact ⟨rfl, rfl, fun _ =>
      ⟨rfl, rfl, rfl, fun hne => absurd rfl (hne _), fun _ _ => ⟨rfl, rfl, rfl, rfl, rfl⟩⟩⟩
  | tick =>
    obtain ⟨hcfg, hscript, hnum, hden, hcps, hvol⟩ := generateSamples_sameLatches 1 s
    exact ⟨hcfg, hscript, fun _ => ⟨hnum, hden, hcps, fun _ => hvol, fun _ hne => absurd rfl hne⟩⟩

/-! ## Samples with nothing queued -/

/-- The landed flags, the tuning and the key latch of a channel, in the statement's order. -/
def Channel.tuningAndLatches (ch : Channel) :
    Bool × Bool × BitVec 11 × BitVec 3 × BitVec 5 × Bool × List (BitVec 20) :=
  (ch.loLanded, ch.hiLanded, ch.fnum, ch.block, ch.kcode, ch.keyLatch, ch.ops.map Operator.inc)

@[simp] theorem Channel.tuningAndLatches_sampleTick (ops : Config.OperatorCount) (am : Nat) (pm : Int)
    (ch : Channel) : (ch.sampleTick ops am pm).tuningAndLatches = ch.tuningAndLatches := by
  simp [Channel.tuningAndLatches]

/-- The register-file fields of an operator (R23), as `Channel.registers` keeps them. -/
def Operator.registers (o : Operator) : Operator :=
  { Operator.initial with
    mul := o.mul, dt := o.dt, tl := o.tl, ar := o.ar, dr := o.dr, sr := o.sr, rr := o.rr
    sl := o.sl, ks := o.ks, ssg := o.ssg, egtHold := o.egtHold, egtIgnk := o.egtIgnk }

/-- The envelope step writes no register (R144). -/
@[simp] theorem Operator.registers_egStep (kcode : BitVec 5) (o : Operator) :
    (o.egStep kcode).registers = o.registers := by
  rw [Operator.egStep_frame]; rfl

/-- A SAMPLETICK writes no register: its phase steps and envelope steps do not (R120, R236). -/
@[simp] theorem Channel.registers_sampleTick (ops : Config.OperatorCount) (am : Nat) (pm : Int)
    (ch : Channel) : (ch.sampleTick ops am pm).registers = ch.registers := by
  have hops : (ch.sampleTick ops am pm).ops.map Operator.registers = ch.ops.map Operator.registers := by
    rw [Channel.sampleTick_ops, List.map_map]
    exact List.map_congr_left fun o _ => Operator.registers_egStep ch.kcode (o.phaseStep _)
  exact congrArg (fun l => { ch.registers with ops := l }) hops

/-- `t` has an empty queue and, with that of `s`, the register file, the tunings, the key latches, the volume and
the LFO registers. -/
def SameRegisterFile (s t : State) : Prop :=
  t.queue = [] ∧ t.ch.map Channel.registers = s.ch.map Channel.registers ∧
    t.ch.map Channel.tuningAndLatches = s.ch.map Channel.tuningAndLatches ∧ t.vol = s.vol ∧
    t.lfoAmFreq = s.lfoAmFreq ∧ t.lfoPmFreq = s.lfoPmFreq ∧ t.lfoAmWave = s.lfoAmWave ∧
    t.lfoPmWave = s.lfoPmWave

theorem SameRegisterFile.subtick {s x : State} (h : SameRegisterFile s x) :
    SameRegisterFile s (subtick x) := by
  rw [subtick_of_queue_nil h.1]; exact h

theorem SameRegisterFile.sampleTick {s x : State} (h : SameRegisterFile s x) :
    SameRegisterFile s (sampleTick x) := by
  obtain ⟨hqueue, hregisters, htuning, rest⟩ := h
  refine ⟨hqueue, ?_, ?_, rest⟩
  · simpa [Function.comp_def] using hregisters
  · simpa [Function.comp_def] using htuning

/-- Settles O35: with nothing queued a sample is count-downs and a SAMPLETICK, and neither writes a register. -/
theorem samplesLeaveTheRegisterFile : Obligations.SamplesLeaveTheRegisterFile := by
  intro s n ready hqueue
  have kept : SameRegisterFile s (generateSamples n s).1 :=
    generateSamples_induction (P := SameRegisterFile s) (fun _ h => h) (fun _ h => h.subtick)
      (fun _ h => h.sampleTick) n s ⟨hqueue, rfl, rfl, rfl, rfl, rfl, rfl, rfl⟩
  exact ⟨_, execGenerate_of_ready n ready, kept⟩

/-! ## Reset -/

/-- Settles O24: the elements of `State.afterReset`, the arguments among them because a legal argument fits. -/
theorem resetWritesEveryElement : Obligations.ResetWritesEveryElement := by
  intro s clk rate legal
  obtain ⟨hclk, hrate, hcps⟩ := State.afterReset_clocks s.cfg s.script legal
  refine ⟨State.afterReset s.cfg s.script clk rate, if_pos legal, rfl, hclk, hrate, hcps, rfl, rfl, rfl, rfl,
    rfl, rfl, rfl, rfl, rfl, rfl, rfl, rfl, List.length_replicate, fun ch hch => ?_⟩
  obtain rfl := List.eq_of_mem_replicate hch
  refine ⟨rfl, rfl, rfl, rfl, rfl, rfl, rfl, rfl, rfl, rfl, rfl, rfl, rfl, rfl, rfl, rfl,
    List.length_replicate, fun o ho => ?_⟩
  obtain rfl := List.eq_of_mem_replicate ho
  simp [Operator.initial]

/-- What `reset` keeps holds after it: the state before, not ready yet, meets every invariant that speaks of ready
states (R51). -/
theorem Invariant.afterReset {P : State → Prop} (inv : Invariant P) (cfg : Config.Params)
    (script : List HostCall) {clk rate : Nat} (legal : resetLegal clk rate)
    (notReady : P { State.powerOn with cfg := cfg, script := script }) :
    P (State.afterReset cfg script clk rate) :=
  inv.reset { State.powerOn with cfg := cfg, script := script } clk rate legal notReady

theorem afterReset_invariants (cfg : Config.Params) (script : List HostCall) {clk rate : Nat}
    (legal : resetLegal clk rate) :
    (State.afterReset cfg script clk rate).EnvelopeInv ∧
      (State.afterReset cfg script clk rate).ChannelInv ∧
      (cfg.Legal → (State.afterReset cfg script clk rate).RangeInv) ∧
      (State.afterReset cfg script clk rate).IncrementInv ∧
      (State.afterReset cfg script clk rate).ClockInv :=
  ⟨envelopeInv_invariant.afterReset cfg script legal nofun,
    channelInv_invariant.afterReset cfg script legal nofun,
    fun hcfg => rangeInv_invariant.afterReset cfg script legal ⟨hcfg, nofun⟩,
    incrementInv_invariant.afterReset cfg script legal nofun, State.afterReset_clockInv cfg script legal⟩

/-- Settles O59: `reset` keeps each invariant, and the state before the first one meets it. -/
theorem resetMeetsTheInvariants : Obligations.ResetMeetsTheInvariants := by
  obtain ⟨henvelope, hchannel, hrange, hincrement, hclock⟩ :=
    afterReset_invariants Config.reference [] (clk := 7670454) (rate := 44100) (by decide)
  exact ⟨fun cfg script _ _ => afterReset_invariants cfg script,
    henvelope, hchannel, hrange (by decide), hincrement, hclock⟩

end Sys2Proof.Machine
end

section
/-!
SUPPORT. Commands for a channel or operator the block lacks: what is left of their effect, and how their entries decode
in the reference map. Which row an entry belongs to is told by single bits of its address.
-/

namespace Sys2Proof.Machine

/-! ## Their effect -/

/-- R37: an absent channel is not written. -/
theorem State.updChan_of_absent {s : State} {c : BitVec 3} (h : hasChannel s.cfg c = false)
    (f : Channel → Channel) : s.updChan c.toNat f = s := by
  have hc : ¬ c.toNat < s.cfg.nch := of_decide_eq_false h
  rw [State.updChan, if_neg hc]

/-- R45: an absent operator is not written, whether its channel is there or not. -/
theorem State.updChan_of_absent_operator {s : State} {c : BitVec 3} {k : BitVec 2}
    (h : hasOperator s.cfg c k = false) (f : Channel → Channel) :
    (s.updChan c.toNat fun ch => if k.toNat < s.cfg.ops.count then f ch else ch) = s := by
  obtain hc | hk := (Bool.and_eq_false_iff).mp h
  · exact State.updChan_of_absent hc _
  · have hk : ¬ k.toNat < s.cfg.ops.count := of_decide_eq_false hk
    have hsame : (s.ch.modify c.toNat fun ch => ch) = s.ch := List.modify_id c.toNat s.ch
    simp only [State.updChan, if_neg hk, hsame, ite_self]

/-- A command that writes nothing takes its busy duration. -/
theorem next_setBusyWrite_of_eq {s x : State} (h : x = s) :
    (.next x.setBusyWrite : Host.Outcome State Fault Refusal) =
      .next { s with busyCnt := s.cfg.busyWrite } := by
  rw [h]; rfl

/-- R254: a KEY for an absent channel takes time only. -/
theorem exec_key_of_absent {s : State} {c : BitVec 3} (on : Bool) (h : s.cfg.nch ≤ c.toNat) :
    exec (.key c on) s = .next { s with busyCnt := s.cfg.busyWrite } :=
  next_setBusyWrite_of_eq (State.updChan_of_absent (decide_eq_false (Nat.not_lt.mpr h)) _)

/-- R37, R45: so does every queue command that is ill-formed, which only an absent index can make it. -/
theorem exec_of_not_wellFormed {s : State} {i : Instr} (queued : i.isQueueCommand = true)
    (h : i.wellFormed s.cfg = false) : exec i s = .next { s with busyCnt := s.cfg.busyWrite } := by
  cases i
  case freqLo => exact next_setBusyWrite_of_eq (State.updChan_of_absent h _)
  case freqHi => exact next_setBusyWrite_of_eq (State.updChan_of_absent h _)
  case algFb => exact next_setBusyWrite_of_eq (State.updChan_of_absent h _)
  case panLfo => exact next_setBusyWrite_of_eq (State.updChan_of_absent h _)
  case mulDt => exact next_setBusyWrite_of_eq (State.updChan_of_absent_operator h _)
  case tl => exact next_setBusyWrite_of_eq (State.updChan_of_absent_operator h _)
  case ar => exact next_setBusyWrite_of_eq (State.updChan_of_absent_operator h _)
  case dr => exact next_setBusyWrite_of_eq (State.updChan_of_absent_operator h _)
  case sr => exact next_setBusyWrite_of_eq (State.updChan_of_absent_operator h _)
  case rr => exact next_setBusyWrite_of_eq (State.updChan_of_absent_operator h _)
  case slKs => exact next_setBusyWrite_of_eq (State.updChan_of_absent_operator h _)
  case egtSsg => exact next_setBusyWrite_of_eq (State.updChan_of_absent_operator h _)
  case reset | write | read | generate | setVolume | tick => cases queued
  case statusW | lfoAmFreq | lfoPmFreq | lfoWave | key | wait | unmapped => cases h

end Sys2Proof.Machine

namespace Sys2Proof

/-! ## Their decoding -/

/-- An entry is UNMAPPED when every row it belongs to makes it so (R83). -/
theorem decodeEntry_unmapped {p : Config.Params} {e : EntryWord}
    (h : ∀ row ∈ p.map.rows, rowMatches e row = true → templateCommand p e row.command = .unmapped) :
    decodeEntry p e = .unmapped := by
  unfold decodeEntry
  split
  next row hrow => exact h row (List.mem_of_find?_eq_some hrow) (List.find?_some hrow)
  next => rfl

/-- An entry belongs to no row that fixes one of its bits to the other value (R84). -/
theorem not_rowMatches_of_bit {e : EntryWord} {row : Config.MapRow} {j : Nat} {b : Bool}
    (he : e.getLsbD j = b) (fixed : row.mask.getLsbD j = true) (hrow : row.pattern.getLsbD j = !b) :
    rowMatches e row ≠ true := by
  intro h
  have heq : e &&& row.mask = row.pattern := beq_iff_eq.mp h
  rw [← heq, BitVec.getLsbD_and, fixed, he, Bool.and_true] at hrow
  exact (Bool.eq_not_self b).mp hrow

/-- Rows of format G fix `A[8]` and `A[9]` to 0. -/
theorem rowsG_bits : ∀ row ∈ Config.rowsG,
    row.mask.getLsbD 16 = true ∧ row.pattern.getLsbD 16 = false ∧
      row.mask.getLsbD 17 = true ∧ row.pattern.getLsbD 17 = false := by decide

/-- Rows of format C fix `A[9]` to 0. -/
theorem rowsC_bits : ∀ row ∈ Config.rowsC,
    row.mask.getLsbD 17 = true ∧ row.pattern.getLsbD 17 = false := by decide

/-- Rows of format O fix `A[9]` to 1. -/
theorem rowsO_bits : ∀ row ∈ Config.rowsO,
    row.mask.getLsbD 17 = true ∧ row.pattern.getLsbD 17 = true := by decide

/-- Of the last two rows one fixes `A[31]` to 1, and the other is UNMAPPED. -/
theorem rowsP_bits : ∀ row ∈ Config.rowsP,
    (row.mask.getLsbD 39 = true ∧ row.pattern.getLsbD 39 = true) ∨ row.command = .unmapped := by decide

/-- Bits put side by side are digits (R80). -/
theorem toNat_append_add {m n : Nat} (x : BitVec m) (y : BitVec n) :
    (x ++ y).toNat = x.toNat * 2 ^ n + y.toNat := by
  rw [BitVec.toNat_append, ← Nat.shiftLeft_add_eq_or_of_lt y.isLt, Nat.shiftLeft_eq]

theorem getLsbD_eq_decide {w : Nat} (x : BitVec w) (j : Nat) :
    x.getLsbD j = decide (x.toNat / 2 ^ j % 2 = 1) := Nat.testBit_eq_decide_div_mod_eq

/-- An entry of format C as a number (R81). -/
theorem channelEntry_toNat (r : BitVec 4) (c : BitVec 3) (v : Byte) :
    (channelEntry r c v).toNat = 65536 + c.toNat * 4096 + r.toNat * 256 + v.toNat := by
  calc (channelEntry r c v).toNat
      = ((2 * 2 ^ 3 + c.toNat) * 2 ^ 4 + r.toNat) * 2 ^ 8 + v.toNat := by
        rw [channelEntry, toNat_append_add, toNat_append_add, toNat_append_add]; rfl
    _ = 65536 + c.toNat * 4096 + r.toNat * 256 + v.toNat := by omega

/-- An entry of format O as a number (R81). -/
theorem operatorEntry_toNat (r : BitVec 4) (c : BitVec 3) (k : BitVec 2) (v : Byte) :
    (operatorEntry r c k v).toNat =
      131072 + c.toNat * 16384 + k.toNat * 4096 + r.toNat * 256 + v.toNat := by
  calc (operatorEntry r c k v).toNat
      = (((1 * 2 ^ 3 + c.toNat) * 2 ^ 2 + k.toNat) * 2 ^ 4 + r.toNat) * 2 ^ 8 + v.toNat := by
        rw [operatorEntry, toNat_append_add, toNat_append_add, toNat_append_add, toNat_append_add]; rfl
    _ = 131072 + c.toNat * 16384 + k.toNat * 4096 + r.toNat * 256 + v.toNat := by omega

/-- Format C has `A[8]` set, `A[9]` and `A[31]` clear. -/
theorem channelEntry_bits (r : BitVec 4) (c : BitVec 3) (v : Byte) :
    (channelEntry r c v).getLsbD 16 = true ∧ (channelEntry r c v).getLsbD 17 = false ∧
      (channelEntry r c v).getLsbD 39 = false := by
  simp only [getLsbD_eq_decide, channelEntry_toNat, decide_eq_true_eq, decide_eq_false_iff_not]
  omega

/-- Format O has `A[9]` set and `A[31]` clear. -/
theorem operatorEntry_bits (r : BitVec 4) (c : BitVec 3) (k : BitVec 2) (v : Byte) :
    (operatorEntry r c k v).getLsbD 17 = true ∧ (operatorEntry r c k v).getLsbD 39 = false := by
  simp only [getLsbD_eq_decide, operatorEntry_toNat, decide_eq_true_eq, decide_eq_false_iff_not]
  omega

/-- The channel a row of format C reads is the one the entry was made with. -/
theorem readField_chanC_channelEntry (r : BitVec 4) (c : BitVec 3) (v : Byte) :
    readField 3 (channelEntry r c v) Config.chanC = c := by
  apply BitVec.eq_of_toNat_eq
  rw [Config.chanC, readField_bits, BitVec.extractLsb'_toNat, channelEntry_toNat,
    Nat.shiftRight_eq_div_pow]
  omega

/-- The channel a row of format O reads is the one the entry was made with. -/
theorem readField_chanO_operatorEntry (r : BitVec 4) (c : BitVec 3) (k : BitVec 2) (v : Byte) :
    readField 3 (operatorEntry r c k v) Config.chanO = c := by
  apply BitVec.eq_of_toNat_eq
  rw [Config.chanO, readField_bits, BitVec.extractLsb'_toNat, operatorEntry_toNat,
    Nat.shiftRight_eq_div_pow]
  omega

/-- And so is the operator. -/
theorem readField_operO_operatorEntry (r : BitVec 4) (c : BitVec 3) (k : BitVec 2) (v : Byte) :
    readField 2 (operatorEntry r c k v) Config.operO = k := by
  apply BitVec.eq_of_toNat_eq
  rw [Config.operO, readField_bits, BitVec.extractLsb'_toNat, operatorEntry_toNat,
    Nat.shiftRight_eq_div_pow]
  omega

/-- Every row of format C is checked against the channels of the block (R83). -/
theorem templateCommand_rowsC_of_absent {p : Config.Params} {e : EntryWord}
    (h : hasChannel p (readField 3 e Config.chanC) = false) :
    ∀ row ∈ Config.rowsC, templateCommand p e row.command = .unmapped := by
  simp [Config.rowsC, templateCommand, ifChannel, h]

/-- Every row of format O is checked against the operators of the block (R83). -/
theorem templateCommand_rowsO_of_absent {p : Config.Params} {e : EntryWord}
    (h : hasOperator p (readField 3 e Config.chanO) (readField 2 e Config.operO) = false) :
    ∀ row ∈ Config.rowsO, templateCommand p e row.command = .unmapped := by
  simp [Config.rowsO, templateCommand, ifOperator, h]

/-- The last two rows make UNMAPPED of every entry with `A[31]` clear. -/
theorem templateCommand_rowsP_of_bit {p : Config.Params} {e : EntryWord} (h : e.getLsbD 39 = false) :
    ∀ row ∈ Config.rowsP, rowMatches e row = true → templateCommand p e row.command = .unmapped := by
  intro row hrow hmatch
  obtain ⟨fixed, hpattern⟩ | hcommand := rowsP_bits row hrow
  · exact absurd hmatch (not_rowMatches_of_bit h fixed hpattern)
  · rw [hcommand]; rfl

/-- R83: an entry for an absent channel belongs to a row of format C, which is checked, or to the last row. -/
theorem decodeEntry_channelEntry_of_absent {p : Config.Params} (hmap : p.map = Config.referenceMap)
    (r : BitVec 4) {c : BitVec 3} (v : Byte) (h : hasChannel p c = false) :
    decodeEntry p (channelEntry r c v) = .unmapped := by
  obtain ⟨h16, h17, h39⟩ := channelEntry_bits r c v
  refine decodeEntry_unmapped fun row hrow hmatch => ?_
  simp only [hmap, Config.referenceMap, List.mem_append] at hrow
  rcases hrow with hG | hC | hO | hP
  · obtain ⟨fixed, hpattern, -, -⟩ := rowsG_bits row hG
    exact absurd hmatch (not_rowMatches_of_bit h16 fixed hpattern)
  · exact templateCommand_rowsC_of_absent (by rwa [readField_chanC_channelEntry]) row hC
  · obtain ⟨fixed, hpattern⟩ := rowsO_bits row hO
    exact absurd hmatch (not_rowMatches_of_bit h17 fixed hpattern)
  · exact templateCommand_rowsP_of_bit h39 row hP hmatch

/-- R83: an entry for an absent operator belongs to a row of format O, which is checked, or to the last row. -/
theorem decodeEntry_operatorEntry_of_absent {p : Config.Params} (hmap : p.map = Config.referenceMap)
    (r : BitVec 4) {c : BitVec 3} {k : BitVec 2} (v : Byte) (h : hasOperator p c k = false) :
    decodeEntry p (operatorEntry r c k v) = .unmapped := by
  obtain ⟨h17, h39⟩ := operatorEntry_bits r c k v
  refine decodeEntry_unmapped fun row hrow hmatch => ?_
  simp only [hmap, Config.referenceMap, List.mem_append] at hrow
  rcases hrow with hG | hC | hO | hP
  · obtain ⟨-, -, fixed, hpattern⟩ := rowsG_bits row hG
    exact absurd hmatch (not_rowMatches_of_bit h17 fixed hpattern)
  · obtain ⟨fixed, hpattern⟩ := rowsC_bits row hC
    exact absurd hmatch (not_rowMatches_of_bit h17 fixed hpattern)
  · refine templateCommand_rowsO_of_absent ?_ row hO
    rwa [readField_chanO_operatorEntry, readField_operO_operatorEntry]
  · exact templateCommand_rowsP_of_bit h39 row hP hmatch

/-- Settles O21: an absent index is not written, and the decoder's check lets no entry name one. -/
theorem absentIndicesTakeTimeOnly : Obligations.AbsentIndicesTakeTimeOnly := by
  refine ⟨fun _ _ => Machine.exec_of_not_wellFormed, fun _ _ on => Machine.exec_key_of_absent on,
    fun p r c v hmap hc => decodeEntry_channelEntry_of_absent hmap r v (decide_eq_false (Nat.not_lt.mpr hc)),
    fun p r c k v hmap h => decodeEntry_operatorEntry_of_absent hmap r v ?_⟩
  exact Bool.and_eq_false_iff.mpr
    (h.imp (fun hc => decide_eq_false (Nat.not_lt.mpr hc)) fun hk => decide_eq_false (Nat.not_lt.mpr hk))

end Sys2Proof
end

section
/-!
SUPPORT. The decoder on the reference map, format by format (R81 to R84). A key has one of the four formats or none;
the rows of each format fix a run of address bits, so that an entry belongs to rows of its own format only; and within
a format the register field tells the row. What an entry decodes to is then said once for each format, its operands as
bit slices of the value byte.
-/

namespace Sys2Proof

/-! ## Keys -/

/-- A key of format G (R81). -/
def globalKey (r : BitVec 4) : Key := 0#28 ++ r

/-- A key of format C (R81). -/
def channelKey (r : BitVec 4) (c : BitVec 3) : Key := 2#25 ++ c ++ r

/-- A key of format O (R81). -/
def operatorKey (r : BitVec 4) (c : BitVec 3) (k : BitVec 2) : Key := 1#23 ++ c ++ k ++ r

theorem globalEntry_eq_append (r : BitVec 4) (v : Byte) : globalEntry r v = globalKey r ++ v := rfl

theorem channelEntry_eq_append (r : BitVec 4) (c : BitVec 3) (v : Byte) :
    channelEntry r c v = channelKey r c ++ v := rfl

theorem operatorEntry_eq_append (r : BitVec 4) (c : BitVec 3) (k : BitVec 2) (v : Byte) :
    operatorEntry r c k v = operatorKey r c k ++ v := rfl

@[simp] theorem globalKey_toNat (r : BitVec 4) : (globalKey r).toNat = r.toNat := by
  rw [globalKey, toNat_append_add]; simp

@[simp] theorem channelKey_toNat (r : BitVec 4) (c : BitVec 3) :
    (channelKey r c).toNat = 256 + c.toNat * 16 + r.toNat := by
  rw [channelKey, toNat_append_add, toNat_append_add, BitVec.toNat_ofNat]; omega

@[simp] theorem operatorKey_toNat (r : BitVec 4) (c : BitVec 3) (k : BitVec 2) :
    (operatorKey r c k).toNat = 512 + c.toNat * 64 + k.toNat * 16 + r.toNat := by
  rw [operatorKey, toNat_append_add, toNat_append_add, toNat_append_add, BitVec.toNat_ofNat]; omega

/-- The format of a key (R81): one of the four, or none. -/
inductive KeyForm : Key → Prop where
  | pseudo {a : Key} (h : 0x80000000 ≤ a.toNat) : KeyForm a
  | global (r : BitVec 4) : KeyForm (globalKey r)
  | channel (r : BitVec 4) (c : BitVec 3) : KeyForm (channelKey r c)
  | operator (r : BitVec 4) (c : BitVec 3) (k : BitVec 2) : KeyForm (operatorKey r c k)
  | none {a : Key} (below : a.toNat < 0x80000000) (notG : 16 ≤ a.toNat) (notC : a.toNat / 128 ≠ 2)
      (notO : a.toNat / 512 ≠ 1) : KeyForm a

/-- Every key has a form, told by its address range. -/
theorem keyForm (a : Key) : KeyForm a := by
  by_cases hP : 0x80000000 ≤ a.toNat
  · exact .pseudo hP
  by_cases hG : a.toNat < 16
  · have key : a = globalKey (BitVec.ofNat 4 a.toNat) := by
      apply BitVec.eq_of_toNat_eq
      rw [globalKey_toNat, BitVec.toNat_ofNat]; omega
    rw [key]; exact .global _
  by_cases hC : a.toNat / 128 = 2
  · have key : a = channelKey (BitVec.ofNat 4 a.toNat) (BitVec.ofNat 3 (a.toNat / 16)) := by
      apply BitVec.eq_of_toNat_eq
      rw [channelKey_toNat, BitVec.toNat_ofNat, BitVec.toNat_ofNat]; omega
    rw [key]; exact .channel _ _
  by_cases hO : a.toNat / 512 = 1
  · have key : a = operatorKey (BitVec.ofNat 4 a.toNat) (BitVec.ofNat 3 (a.toNat / 64))
        (BitVec.ofNat 2 (a.toNat / 16)) := by
      apply BitVec.eq_of_toNat_eq
      rw [operatorKey_toNat, BitVec.toNat_ofNat, BitVec.toNat_ofNat, BitVec.toNat_ofNat]; omega
    rw [key]; exact .operator _ _ _
  exact .none (by omega) (by omega) hC hO

/-! ## Which rows an entry can belong to -/

/-- An entry belongs to no row that fixes one of its runs of bits to another value (R84). -/
theorem not_rowMatches_of_slice {e : EntryWord} {row : Config.MapRow} {lo len x : Nat}
    (fixed : row.mask.extractLsb' lo len = BitVec.allOnes len)
    (hrow : (row.pattern.extractLsb' lo len).toNat = x) (he : e.toNat / 2 ^ lo % 2 ^ len ≠ x) :
    rowMatches e row ≠ true := by
  intro h
  have heq : e &&& row.mask = row.pattern := beq_iff_eq.mp h
  rw [← heq, BitVec.extractLsb'_and, fixed, BitVec.and_allOnes, BitVec.extractLsb'_toNat,
    Nat.shiftRight_eq_div_pow] at hrow
  exact he hrow

/-- Rows of format G fix `A[31:4]` to 0. -/
theorem rowsG_fixed : ∀ row ∈ Config.rowsG,
    row.mask.extractLsb' 12 28 = BitVec.allOnes 28 ∧ (row.pattern.extractLsb' 12 28).toNat = 0 := by
  decide

/-- Rows of format C fix `A[31:7]` to 2. -/
theorem rowsC_fixed : ∀ row ∈ Config.rowsC,
    row.mask.extractLsb' 15 25 = BitVec.allOnes 25 ∧ (row.pattern.extractLsb' 15 25).toNat = 2 := by
  decide

/-- Rows of format O fix `A[31:9]` to 1. -/
theorem rowsO_fixed : ∀ row ∈ Config.rowsO,
    row.mask.extractLsb' 17 23 = BitVec.allOnes 23 ∧ (row.pattern.extractLsb' 17 23).toNat = 1 := by
  decide

theorem not_rowMatches_rowsG {a : Key} (v : Byte) (h : 16 ≤ a.toNat) :
    ∀ row ∈ Config.rowsG, rowMatches (a ++ v) row ≠ true := by
  intro row hrow
  obtain ⟨fixed, hpattern⟩ := rowsG_fixed row hrow
  refine not_rowMatches_of_slice fixed hpattern ?_
  rw [toNat_append_add]; omega

theorem not_rowMatches_rowsC {a : Key} (v : Byte) (h : a.toNat / 128 ≠ 2) :
    ∀ row ∈ Config.rowsC, rowMatches (a ++ v) row ≠ true := by
  intro row hrow
  obtain ⟨fixed, hpattern⟩ := rowsC_fixed row hrow
  refine not_rowMatches_of_slice fixed hpattern ?_
  rw [toNat_append_add]; omega

theorem not_rowMatches_rowsO {a : Key} (v : Byte) (h : a.toNat / 512 ≠ 1) :
    ∀ row ∈ Config.rowsO, rowMatches (a ++ v) row ≠ true := by
  intro row hrow
  obtain ⟨fixed, hpattern⟩ := rowsO_fixed row hrow
  refine not_rowMatches_of_slice fixed hpattern ?_
  rw [toNat_append_add]; omega

/-! ## The first row an entry belongs to -/

/-- The command of the first of some rows that an entry belongs to, UNMAPPED when there is none (R83). -/
def firstCommand (p : Config.Params) (e : EntryWord) : List Config.MapRow → Instr
  | [] => .unmapped
  | row :: rest => if rowMatches e row = true then templateCommand p e row.command else firstCommand p e rest

theorem decodeEntry_eq_firstCommand (p : Config.Params) (e : EntryWord) :
    decodeEntry p e = firstCommand p e p.map.rows := by
  unfold decodeEntry
  induction p.map.rows with
  | nil => rfl
  | cons row rest ih =>
    by_cases h : rowMatches e row = true
    · simp [firstCommand, h]
    · simpa [firstCommand, h] using ih

theorem firstCommand_append_of_not_rowMatches {p : Config.Params} {e : EntryWord}
    {rows : List Config.MapRow} (rest : List Config.MapRow)
    (h : ∀ row ∈ rows, rowMatches e row ≠ true) :
    firstCommand p e (rows ++ rest) = firstCommand p e rest := by
  induction rows with
  | nil => rfl
  | cons row rows ih =>
    rw [List.cons_append, firstCommand, if_neg (h row List.mem_cons_self),
      ih fun r hr => h r (List.mem_cons_of_mem row hr)]

theorem firstCommand_append_of_unmapped {p : Config.Params} {e : EntryWord}
    (rows : List Config.MapRow) {rest : List Config.MapRow} (h : firstCommand p e rest = .unmapped) :
    firstCommand p e (rows ++ rest) = firstCommand p e rows := by
  induction rows with
  | nil => exact h
  | cons row rows ih => simp only [List.cons_append, firstCommand, ih]

/-- An entry belongs to the row of WAIT when its `A[31]` is set (R84). -/
theorem rowMatches_wait (e : EntryWord) (t : Config.Template) :
    rowMatches e ⟨0x8000000000, 0x8000000000, t⟩ = e.getLsbD 39 := by
  change (e &&& BitVec.twoPow 40 39 == BitVec.twoPow 40 39) = e.getLsbD 39
  rw [BitVec.and_twoPow]
  cases e.getLsbD 39 <;> rfl

/-- The last two rows make a WAIT of an entry with `A[31]` set, and UNMAPPED of any other (R84). -/
theorem firstCommand_rowsP (p : Config.Params) (e : EntryWord) :
    firstCommand p e Config.rowsP =
      if e.getLsbD 39 = true then .wait (e.extractLsb' 0 24) else .unmapped := by
  simp only [Config.rowsP, firstCommand, rowMatches_wait, templateCommand, readField_waitCount, ite_self]

/-- A key below 2^31 has `A[31]` clear. -/
theorem getLsbD_39_append (a : Key) (v : Byte) :
    (a ++ v).getLsbD 39 = decide (0x80000000 ≤ a.toNat) := by
  rw [getLsbD_eq_decide, toNat_append_add, decide_eq_decide]; omega

theorem firstCommand_rowsP_of_lt (p : Config.Params) {a : Key} (v : Byte) (h : a.toNat < 0x80000000) :
    firstCommand p (a ++ v) Config.rowsP = .unmapped := by
  rw [firstCommand_rowsP, getLsbD_39_append, if_neg (by simpa using h)]

section
variable {p : Config.Params} (hmap : p.map = Config.referenceMap)
include hmap

theorem decodeEntry_reference (e : EntryWord) :
    decodeEntry p e =
      firstCommand p e (Config.rowsG ++ (Config.rowsC ++ (Config.rowsO ++ Config.rowsP))) := by
  rw [decodeEntry_eq_firstCommand, hmap, Config.referenceMap]

/-- Format P (R81, R84). -/
theorem decodeEntry_pseudo {a : Key} (v : Byte) (h : 0x80000000 ≤ a.toNat) :
    decodeEntry p (a ++ v) = .wait ((a ++ v).extractLsb' 0 24) := by
  rw [decodeEntry_reference hmap,
    firstCommand_append_of_not_rowMatches _ (not_rowMatches_rowsG v (by omega)),
    firstCommand_append_of_not_rowMatches _ (not_rowMatches_rowsC v (by omega)),
    firstCommand_append_of_not_rowMatches _ (not_rowMatches_rowsO v (by omega)),
    firstCommand_rowsP, getLsbD_39_append, if_pos (decide_eq_true h)]

/-- A key of no format is unmapped (R86). -/
theorem decodeEntry_none {a : Key} (v : Byte) (below : a.toNat < 0x80000000) (notG : 16 ≤ a.toNat)
    (notC : a.toNat / 128 ≠ 2) (notO : a.toNat / 512 ≠ 1) : decodeEntry p (a ++ v) = .unmapped := by
  rw [decodeEntry_reference hmap,
    firstCommand_append_of_not_rowMatches _ (not_rowMatches_rowsG v notG),
    firstCommand_append_of_not_rowMatches _ (not_rowMatches_rowsC v notC),
    firstCommand_append_of_not_rowMatches _ (not_rowMatches_rowsO v notO),
    firstCommand_rowsP_of_lt p v below]

/-- An entry of format G is left to the rows of format G. -/
theorem decodeEntry_globalEntry_rows (r : BitVec 4) (v : Byte) :
    decodeEntry p (globalEntry r v) = firstCommand p (globalEntry r v) Config.rowsG := by
  have hr : (globalKey r).toNat < 16 := by rw [globalKey_toNat]; omega
  rw [globalEntry_eq_append, decodeEntry_reference hmap]
  apply firstCommand_append_of_unmapped
  rw [firstCommand_append_of_not_rowMatches _ (not_rowMatches_rowsC v (by omega)),
    firstCommand_append_of_not_rowMatches _ (not_rowMatches_rowsO v (by omega)),
    firstCommand_rowsP_of_lt p v (by omega)]

/-- An entry of format C is left to the rows of format C. -/
theorem decodeEntry_channelEntry_rows (r : BitVec 4) (c : BitVec 3) (v : Byte) :
    decodeEntry p (channelEntry r c v) = firstCommand p (channelEntry r c v) Config.rowsC := by
  have hkey := channelKey_toNat r c
  rw [channelEntry_eq_append, decodeEntry_reference hmap,
    firstCommand_append_of_not_rowMatches _ (not_rowMatches_rowsG v (by omega))]
  apply firstCommand_append_of_unmapped
  rw [firstCommand_append_of_not_rowMatches _ (not_rowMatches_rowsO v (by omega)),
    firstCommand_rowsP_of_lt p v (by omega)]

/-- An entry of format O is left to the rows of format O. -/
theorem decodeEntry_operatorEntry_rows (r : BitVec 4) (c : BitVec 3) (k : BitVec 2) (v : Byte) :
    decodeEntry p (operatorEntry r c k v) = firstCommand p (operatorEntry r c k v) Config.rowsO := by
  have hkey := operatorKey_toNat r c k
  rw [operatorEntry_eq_append, decodeEntry_reference hmap,
    firstCommand_append_of_not_rowMatches _ (not_rowMatches_rowsG v (by omega)),
    firstCommand_append_of_not_rowMatches _ (not_rowMatches_rowsC v (by omega))]
  exact firstCommand_append_of_unmapped _ (firstCommand_rowsP_of_lt p v (by omega))

end

/-! ## The row a register field tells -/

/-- The mask of format G keeps the register. -/
theorem globalEntry_and_maskG (r : BitVec 4) (v : Byte) :
    globalEntry r v &&& Config.maskG = globalEntry r 0 := by
  change (0#28 ++ r ++ v) &&& (BitVec.allOnes 28 ++ BitVec.allOnes 4 ++ 0#8) = 0#28 ++ r ++ 0#8
  simp only [BitVec.and_append, BitVec.and_allOnes, BitVec.and_zero]

/-- The mask of format C keeps the register and drops the channel. -/
theorem channelEntry_and_maskC (r : BitVec 4) (c : BitVec 3) (v : Byte) :
    channelEntry r c v &&& Config.maskC = channelEntry r 0 0 := by
  change (2#25 ++ c ++ r ++ v) &&& (BitVec.allOnes 25 ++ 0#3 ++ BitVec.allOnes 4 ++ 0#8) =
    2#25 ++ 0#3 ++ r ++ 0#8
  simp only [BitVec.and_append, BitVec.and_allOnes, BitVec.and_zero]

/-- The mask of format O keeps the register and drops the channel and the operator. -/
theorem operatorEntry_and_maskO (r : BitVec 4) (c : BitVec 3) (k : BitVec 2) (v : Byte) :
    operatorEntry r c k v &&& Config.maskO = operatorEntry r 0 0 0 := by
  change (1#23 ++ c ++ k ++ r ++ v) &&&
    (BitVec.allOnes 23 ++ 0#3 ++ 0#2 ++ BitVec.allOnes 4 ++ 0#8) = 1#23 ++ 0#3 ++ 0#2 ++ r ++ 0#8
  simp only [BitVec.and_append, BitVec.and_allOnes, BitVec.and_zero]

theorem rowMatches_globalEntry (r r' : BitVec 4) (v : Byte) (t : Config.Template) :
    rowMatches (globalEntry r v) ⟨globalEntry r' 0, Config.maskG, t⟩ = true ↔ r = r' := by
  have same : globalEntry r 0 = globalEntry r' 0 ↔ r = r' := by
    rw [← BitVec.toNat_inj, ← BitVec.toNat_inj, globalEntry_eq_append, globalEntry_eq_append,
      toNat_append_add, toNat_append_add, globalKey_toNat, globalKey_toNat]
    omega
  rw [rowMatches, globalEntry_and_maskG, beq_iff_eq, same]

theorem rowMatches_channelEntry (r r' : BitVec 4) (c : BitVec 3) (v : Byte) (t : Config.Template) :
    rowMatches (channelEntry r c v) ⟨channelEntry r' 0 0, Config.maskC, t⟩ = true ↔ r = r' := by
  have same : channelEntry r 0 0 = channelEntry r' 0 0 ↔ r = r' := by
    rw [← BitVec.toNat_inj, ← BitVec.toNat_inj, channelEntry_toNat, channelEntry_toNat]
    omega
  rw [rowMatches, channelEntry_and_maskC, beq_iff_eq, same]

theorem rowMatches_operatorEntry (r r' : BitVec 4) (c : BitVec 3) (k : BitVec 2) (v : Byte)
    (t : Config.Template) :
    rowMatches (operatorEntry r c k v) ⟨operatorEntry r' 0 0 0, Config.maskO, t⟩ = true ↔ r = r' := by
  have same : operatorEntry r 0 0 0 = operatorEntry r' 0 0 0 ↔ r = r' := by
    rw [← BitVec.toNat_inj, ← BitVec.toNat_inj, operatorEntry_toNat, operatorEntry_toNat]
    omega
  rw [rowMatches, operatorEntry_and_maskO, beq_iff_eq, same]

/-- The patterns of format G are entries of format G, one for each register. -/
theorem rowsG_eq_entries : Config.rowsG =
    [ ⟨globalEntry 0 0, Config.maskG, .statusW⟩,
      ⟨globalEntry 1 0, Config.maskG, .lfoAmFreq (Config.bits 0 8)⟩,
      ⟨globalEntry 2 0, Config.maskG, .lfoPmFreq (Config.bits 0 8)⟩,
      ⟨globalEntry 3 0, Config.maskG, .lfoWave (Config.bits 0 2) (Config.bits 4 2)⟩,
      ⟨globalEntry 4 0, Config.maskG, .key (Config.bits 0 3) (Config.bits 7 1)⟩ ] := rfl

/-- The patterns of format C are entries of format C, one for each register. -/
theorem rowsC_eq_entries : Config.rowsC =
    [ ⟨channelEntry 0 0 0, Config.maskC, .freqLo Config.chanC (Config.bits 0 8)⟩,
      ⟨channelEntry 1 0 0, Config.maskC, .freqHi Config.chanC (Config.bits 0 3) (Config.bits 3 3)⟩,
      ⟨channelEntry 2 0 0, Config.maskC, .algFb Config.chanC (Config.bits 0 3) (Config.bits 3 3)⟩,
      ⟨channelEntry 3 0 0, Config.maskC,
        .panLfo Config.chanC (Config.bits 0 2) (Config.bits 2 2) (Config.bits 4 3)⟩ ] := rfl

/-- The patterns of format O are entries of format O, one for each register. -/
theorem rowsO_eq_entries : Config.rowsO =
    [ ⟨operatorEntry 0 0 0 0, Config.maskO,
        .mulDt Config.chanO Config.operO (Config.bits 0 4) (Config.bits 4 3)⟩,
      ⟨operatorEntry 1 0 0 0, Config.maskO, .tl Config.chanO Config.operO (Config.bits 0 7)⟩,
      ⟨operatorEntry 2 0 0 0, Config.maskO, .ar Config.chanO Config.operO (Config.bits 0 6)⟩,
      ⟨operatorEntry 3 0 0 0, Config.maskO, .dr Config.chanO Config.operO (Config.bits 0 6)⟩,
      ⟨operatorEntry 4 0 0 0, Config.maskO, .sr Config.chanO Config.operO (Config.bits 0 6)⟩,
      ⟨operatorEntry 5 0 0 0, Config.maskO, .rr Config.chanO Config.operO (Config.bits 0 6)⟩,
      ⟨operatorEntry 6 0 0 0, Config.maskO,
        .slKs Config.chanO Config.operO (Config.bits 0 4) (Config.bits 4 2)⟩,
      ⟨operatorEntry 7 0 0 0, Config.maskO,
        .egtSsg Config.chanO Config.operO (Config.bits 0 4) (Config.bits 4 1) (Config.bits 5 1)⟩ ] :=
  rfl

/-! ## What an entry of each format decodes to -/

/-- The command of register `r` of format G. -/
def globalCommand (r : BitVec 4) (v : Byte) : Instr :=
  if r = 0 then .statusW
  else if r = 1 then .lfoAmFreq v
  else if r = 2 then .lfoPmFreq v
  else if r = 3 then .lfoWave (v.extractLsb' 0 2) (v.extractLsb' 4 2)
  else if r = 4 then .key (v.extractLsb' 0 3) (v.getLsbD 7)
  else .unmapped

/-- The command of register `r` of channel `c`. -/
def channelCommand (r : BitVec 4) (c : BitVec 3) (v : Byte) : Instr :=
  if r = 0 then .freqLo c v
  else if r = 1 then .freqHi c (v.extractLsb' 0 3) (v.extractLsb' 3 3)
  else if r = 2 then .algFb c (v.extractLsb' 0 3) (v.extractLsb' 3 3)
  else if r = 3 then .panLfo c (v.extractLsb' 0 2) (v.extractLsb' 2 2) (v.extractLsb' 4 3)
  else .unmapped

/-- The command of register `r` of operator `k` of channel `c`. -/
def operatorCommand (r : BitVec 4) (c : BitVec 3) (k : BitVec 2) (v : Byte) : Instr :=
  if r = 0 then .mulDt c k (v.extractLsb' 0 4) (v.extractLsb' 4 3)
  else if r = 1 then .tl c k (v.extractLsb' 0 7)
  else if r = 2 then .ar c k (v.extractLsb' 0 6)
  else if r = 3 then .dr c k (v.extractLsb' 0 6)
  else if r = 4 then .sr c k (v.extractLsb' 0 6)
  else if r = 5 then .rr c k (v.extractLsb' 0 6)
  else if r = 6 then .slKs c k (v.extractLsb' 0 4) (v.extractLsb' 4 2)
  else if r = 7 then .egtSsg c k (v.extractLsb' 0 4) (v.getLsbD 4) (v.getLsbD 5)
  else .unmapped

@[simp] theorem ifChannel_unmapped (p : Config.Params) (c : BitVec 3) :
    ifChannel p c .unmapped = .unmapped := ite_self _

@[simp] theorem ifOperator_unmapped (p : Config.Params) (c : BitVec 3) (k : BitVec 2) :
    ifOperator p c k .unmapped = .unmapped := ite_self _

/-- A field of the value byte, read from the entry word. -/
theorem extractLsb'_append_value (a : Key) (v : Byte) {lo len : Nat} (h : lo + len ≤ 8) :
    (a ++ v).extractLsb' lo len = v.extractLsb' lo len := BitVec.extractLsb'_append_eq_of_add_le h

/-- A flag of the value byte, read from the entry word. -/
theorem getLsbD_append_value (a : Key) (v : Byte) {i : Nat} (h : i < 8) :
    (a ++ v).getLsbD i = v.getLsbD i := by
  rw [BitVec.getLsbD_append, if_pos h]

theorem firstCommand_rowsG (p : Config.Params) (r : BitVec 4) (v : Byte) :
    firstCommand p (globalEntry r v) Config.rowsG = globalCommand r v := by
  simp only [rowsG_eq_entries, firstCommand, rowMatches_globalEntry, templateCommand, readField_bits,
    readFlag_bits]
  simp (disch := decide) only [globalEntry_eq_append, extractLsb'_append_value, getLsbD_append_value,
    BitVec.extractLsb'_eq_self, globalCommand]

theorem firstCommand_rowsC (p : Config.Params) (r : BitVec 4) (c : BitVec 3) (v : Byte) :
    firstCommand p (channelEntry r c v) Config.rowsC = ifChannel p c (channelCommand r c v) := by
  simp only [rowsC_eq_entries, firstCommand, rowMatches_channelEntry, templateCommand,
    readField_chanC_channelEntry, readField_bits]
  simp (disch := decide) only [channelEntry_eq_append, extractLsb'_append_value,
    BitVec.extractLsb'_eq_self, channelCommand, apply_ite (ifChannel p c), ifChannel_unmapped]

theorem firstCommand_rowsO (p : Config.Params) (r : BitVec 4) (c : BitVec 3) (k : BitVec 2) (v : Byte) :
    firstCommand p (operatorEntry r c k v) Config.rowsO = ifOperator p c k (operatorCommand r c k v) := by
  simp only [rowsO_eq_entries, firstCommand, rowMatches_operatorEntry, templateCommand,
    readField_chanO_operatorEntry, readField_operO_operatorEntry, readField_bits, readFlag_bits]
  simp (disch := decide) only [operatorEntry_eq_append, extractLsb'_append_value, getLsbD_append_value,
    operatorCommand, apply_ite (ifOperator p c k), ifOperator_unmapped]

section
variable {p : Config.Params} (hmap : p.map = Config.referenceMap)
include hmap

/-- Format G (R83, R84). -/
theorem decodeEntry_globalKey (r : BitVec 4) (v : Byte) :
    decodeEntry p (globalKey r ++ v) = globalCommand r v :=
  (decodeEntry_globalEntry_rows hmap r v).trans (firstCommand_rowsG p r v)

/-- Format C (R83, R84). -/
theorem decodeEntry_channelKey (r : BitVec 4) (c : BitVec 3) (v : Byte) :
    decodeEntry p (channelKey r c ++ v) = ifChannel p c (channelCommand r c v) :=
  (decodeEntry_channelEntry_rows hmap r c v).trans (firstCommand_rowsC p r c v)

/-- Format O (R83, R84). -/
theorem decodeEntry_operatorKey (r : BitVec 4) (c : BitVec 3) (k : BitVec 2) (v : Byte) :
    decodeEntry p (operatorKey r c k ++ v) = ifOperator p c k (operatorCommand r c k v) :=
  (decodeEntry_operatorEntry_rows hmap r c k v).trans (firstCommand_rowsO p r c k v)

end

end Sys2Proof
end

section
/-!
SUPPORT. Encoding and decoding undo one another: a value byte is put together from its fields and taken apart again,
and so is a host call.
-/

namespace Sys2Proof

/-! ## Fields side by side -/

/-- The last of some fields put side by side. -/
theorem extractLsb'_last {m n : Nat} (y : BitVec m) (x : BitVec n) : (y ++ x).extractLsb' 0 n = x :=
  BitVec.extractLsb'_append_eq_right

/-- The last but one. -/
theorem extractLsb'_second {l m n : Nat} (z : BitVec l) (y : BitVec m) (x : BitVec n) :
    (z ++ y ++ x).extractLsb' n m = y := by
  rw [BitVec.extractLsb'_append_eq_of_le le_rfl, Nat.sub_self, extractLsb'_last]

/-- The last but two. -/
theorem extractLsb'_third {k l m n : Nat} (u : BitVec k) (z : BitVec l) (y : BitVec m) (x : BitVec n) :
    (u ++ z ++ y ++ x).extractLsb' (m + n) l = z := by
  rw [BitVec.extractLsb'_append_eq_of_le (Nat.le_add_left n m), Nat.add_sub_cancel, extractLsb'_second]

/-- The first of three. -/
theorem extractLsb'_first {l m n : Nat} (z : BitVec l) (y : BitVec m) (x : BitVec n) :
    (z ++ y ++ x).extractLsb' (m + n) l = z := by
  rw [BitVec.extractLsb'_append_eq_of_le (Nat.le_add_left n m), Nat.add_sub_cancel,
    BitVec.extractLsb'_append_eq_left]

/-- A field of one bit is a flag. -/
theorem getLsbD_of_extractLsb' {w i : Nat} {v : BitVec w} {b : Bool}
    (h : v.extractLsb' i 1 = BitVec.ofBool b) : v.getLsbD i = b := by
  have bit : (v.extractLsb' i 1).getLsbD 0 = v.getLsbD i := by simp
  rw [← bit, h]
  cases b <;> rfl

/-! ## Entries -/

/-- An entry word is its address and its value side by side (R80). -/
theorem entryWord_eq_append (e : EntryWord) : e = e.extractLsb' 8 32 ++ e.extractLsb' 0 8 :=
  (BitVec.extractLsb'_append_extractLsb' (w := 32) (len := 8)).symm

section
variable {p : Config.Params} (hmap : p.map = Config.referenceMap)
include hmap

/-- `decodeEntry_pseudo` for an entry word that is not yet taken apart. -/
theorem decodeEntry_of_le {e : EntryWord} (h : 0x8000000000 ≤ e.toNat) :
    decodeEntry p e = .wait (e.extractLsb' 0 24) := by
  have high : 0x80000000 ≤ (e.extractLsb' 8 32).toNat := by
    rw [BitVec.extractLsb'_toNat, Nat.shiftRight_eq_div_pow]; omega
  have hdecode := decodeEntry_pseudo hmap (e.extractLsb' 0 8) high
  rwa [← entryWord_eq_append] at hdecode

theorem decode_globalEntry {r : BitVec 4} {v : Byte} {i : Instr} (h : globalCommand r v = i) :
    decode p (.entry (globalEntry r v)) = .ok i :=
  congrArg Except.ok ((decodeEntry_globalKey hmap r v).trans h)

theorem decode_channelEntry {r : BitVec 4} {c : BitVec 3} {v : Byte} {i : Instr}
    (hc : hasChannel p c = true) (h : channelCommand r c v = i) :
    decode p (.entry (channelEntry r c v)) = .ok i :=
  congrArg Except.ok ((decodeEntry_channelKey hmap r c v).trans ((if_pos hc).trans h))

theorem decode_operatorEntry {r : BitVec 4} {c : BitVec 3} {k : BitVec 2} {v : Byte} {i : Instr}
    (hk : hasOperator p c k = true) (h : operatorCommand r c k v = i) :
    decode p (.entry (operatorEntry r c k v)) = .ok i :=
  congrArg Except.ok ((decodeEntry_operatorKey hmap r c k v).trans ((if_pos hk).trans h))

theorem decode_pseudoEntry (n : BitVec 24) : decode p (.entry (pseudoEntry n)) = .ok (.wait n) := by
  have high : 0x8000000000 ≤ (pseudoEntry n).toNat := by
    rw [pseudoEntry, toNat_append_add, toNat_append_add, BitVec.toNat_ofNat, BitVec.toNat_ofNat]
    omega
  exact congrArg Except.ok ((decodeEntry_of_le hmap high).trans
    (congrArg Instr.wait (extractLsb'_last (1#1 ++ 0#15) n)))

end

/-! ## Host calls -/

theorem decodeCall_write (a : Key) (v : Byte) : decodeCall ⟨1, a.toNat, v.toNat⟩ = .ok (.write a v) := by
  have fits : a.toNat < 4294967296 ∧ v.toNat < 256 := ⟨a.isLt, v.isLt⟩
  calc decodeCall ⟨1, a.toNat, v.toNat⟩
      = .ok (.write (BitVec.ofNat 32 a.toNat) (BitVec.ofNat 8 v.toNat)) := if_pos fits
    _ = .ok (.write a v) := by rw [BitVec.ofNat_toNat, BitVec.ofNat_toNat]; rfl

theorem decodeCall_read (a : Key) (y : Nat) : decodeCall ⟨2, a.toNat, y⟩ = .ok (.read a) := by
  calc decodeCall ⟨2, a.toNat, y⟩
      = .ok (.read (BitVec.ofNat 32 a.toNat)) := if_pos a.isLt
    _ = .ok (.read a) := by rw [BitVec.ofNat_toNat]; rfl

theorem decodeCall_noSuchCode {h : HostCall} (hcode : 6 ≤ h.code.toNat) :
    decodeCall h = .error .noSuchCode := by
  obtain ⟨code, x, y⟩ := h
  have six_or_seven : code = 6 ∨ code = 7 := by bv_omega
  rcases six_or_seven with rfl | rfl
  · rfl
  · rfl

/-- Settles O1: a row is found by the register the encoder wrote, and each operand by its place in the value byte. -/
theorem decodeEncodeRoundTrip : Obligations.DecodeEncodeRoundTrip := by
  intro p i hmap hwf
  cases i with
  | statusW => exact decode_globalEntry hmap rfl
  | lfoAmFreq f => exact decode_globalEntry hmap rfl
  | lfoPmFreq f => exact decode_globalEntry hmap rfl
  | lfoWave am pm =>
    exact decode_globalEntry hmap
      (congrArg₂ Instr.lfoWave (extractLsb'_last _ am) (extractLsb'_third 0#2 pm 0#2 am))
  | key c on =>
    exact decode_globalEntry hmap (congrArg₂ Instr.key (extractLsb'_last _ c)
      (getLsbD_of_extractLsb' (extractLsb'_first (BitVec.ofBool on) 0#4 c)))
  | freqLo c lo => exact decode_channelEntry hmap hwf rfl
  | freqHi c fhi block =>
    exact decode_channelEntry hmap hwf
      (congrArg₂ (Instr.freqHi c) (extractLsb'_last _ fhi) (extractLsb'_second 0#2 block fhi))
  | algFb c alg fb =>
    exact decode_channelEntry hmap hwf
      (congrArg₂ (Instr.algFb c) (extractLsb'_last _ alg) (extractLsb'_second 0#2 fb alg))
  | panLfo c pan ams pms =>
    exact decode_channelEntry hmap hwf (congr (congrArg₂ (Instr.panLfo c) (extractLsb'_last _ pan)
      (extractLsb'_second (0#1 ++ pms) ams pan)) (extractLsb'_third 0#1 pms ams pan))
  | mulDt c k mul dt =>
    exact decode_operatorEntry hmap hwf
      (congrArg₂ (Instr.mulDt c k) (extractLsb'_last _ mul) (extractLsb'_second 0#1 dt mul))
  | tl c k level =>
    exact decode_operatorEntry hmap hwf (congrArg (Instr.tl c k) (extractLsb'_last 0#1 level))
  | ar c k rate =>
    exact decode_operatorEntry hmap hwf (congrArg (Instr.ar c k) (extractLsb'_last 0#2 rate))
  | dr c k rate =>
    exact decode_operatorEntry hmap hwf (congrArg (Instr.dr c k) (extractLsb'_last 0#2 rate))
  | sr c k rate =>
    exact decode_operatorEntry hmap hwf (congrArg (Instr.sr c k) (extractLsb'_last 0#2 rate))
  | rr c k rate =>
    exact decode_operatorEntry hmap hwf (congrArg (Instr.rr c k) (extractLsb'_last 0#2 rate))
  | slKs c k sl ks =>
    exact decode_operatorEntry hmap hwf
      (congrArg₂ (Instr.slKs c k) (extractLsb'_last _ sl) (extractLsb'_second 0#2 ks sl))
  | egtSsg c k ssg hold ignk =>
    exact decode_operatorEntry hmap hwf (congr (congrArg₂ (Instr.egtSsg c k) (extractLsb'_last _ ssg)
      (getLsbD_of_extractLsb' (extractLsb'_second (0#2 ++ BitVec.ofBool ignk) (BitVec.ofBool hold) ssg)))
      (getLsbD_of_extractLsb' (extractLsb'_third 0#2 (BitVec.ofBool ignk) (BitVec.ofBool hold) ssg)))
  | wait n => exact decode_pseudoEntry hmap n
  | unmapped => exact decode_globalEntry hmap rfl
  | reset clk rate => rfl
  | write addr value => exact decodeCall_write addr value
  | read addr => exact decodeCall_read addr 0
  | generate count => rfl
  | setVolume level => rfl
  | tick => rfl

end Sys2Proof
end

section
/-!
SUPPORT. The decoder against the transcription by address ranges, and which keys are unmapped: each is said once for
each form of a key.
-/

namespace Sys2Proof

open Sys2Proof.Machine

/-! ## Fields as numbers -/

/-- A field is a digit of the value (R82). -/
theorem ofNat_digit (v : Byte) (lo w : Nat) :
    BitVec.ofNat w (v.toNat / 2 ^ lo % 2 ^ w) = v.extractLsb' lo w := by
  apply BitVec.eq_of_toNat_eq
  rw [BitVec.toNat_ofNat, Nat.mod_mod, BitVec.extractLsb'_toNat, Nat.shiftRight_eq_div_pow]

/-- The field at bit 0. -/
theorem ofNat_mod (v : Byte) (w : Nat) : BitVec.ofNat w (v.toNat % 2 ^ w) = v.extractLsb' 0 w := by
  rw [← ofNat_digit, Nat.pow_zero, Nat.div_one]

/-- The whole of an operand. -/
theorem ofNat_toNat_self {w : Nat} (x : BitVec w) : BitVec.ofNat w x.toNat = x := by
  rw [BitVec.ofNat_toNat, BitVec.setWidth_eq]

/-! ## The index checks as numbers -/

theorem hasChannel_iff {p : Config.Params} {c : BitVec 3} : hasChannel p c = true ↔ c.toNat < p.nch :=
  decide_eq_true_iff

theorem hasOperator_iff {p : Config.Params} {c : BitVec 3} {k : BitVec 2} :
    hasOperator p c k = true ↔ c.toNat < p.nch ∧ k.toNat < p.ops.count := by
  rw [hasOperator, Bool.and_eq_true, hasChannel_iff, decide_eq_true_iff]

theorem ifChannel_eq_ite (p : Config.Params) (c : BitVec 3) (i : Instr) :
    ifChannel p c i = if p.nch ≤ c.toNat then .unmapped else i := by
  rw [ifChannel, ← ite_not]
  exact if_congr (by rw [hasChannel_iff, Nat.not_lt]) rfl rfl

theorem ifOperator_eq_ite (p : Config.Params) (c : BitVec 3) (k : BitVec 2) (i : Instr) :
    ifOperator p c k i = if p.nch ≤ c.toNat ∨ p.ops.count ≤ k.toNat then .unmapped else i := by
  rw [ifOperator, ← ite_not]
  exact if_congr (by rw [hasOperator_iff]; omega) rfl rfl

/-! ## The transcription -/

theorem ruleCommand_global (p : Config.Params) (r : BitVec 4) (v : Byte) :
    ruleCommand p (globalKey r).toNat v.toNat = globalCommand r v := by
  have below : ¬ 0x80000000 ≤ r.toNat := by omega
  have range : r.toNat < 16 := by omega
  unfold ruleCommand globalCommand
  rw [globalKey_toNat, if_neg below, if_pos range]
  split_ifs with h0 h1 h2 h3 h4
  · subst h0; rfl
  · subst h1; exact congrArg Instr.lfoAmFreq (ofNat_toNat_self v)
  · subst h2; exact congrArg Instr.lfoPmFreq (ofNat_toNat_self v)
  · subst h3; exact congrArg₂ Instr.lfoWave (ofNat_mod v 2) (ofNat_digit v 4 2)
  · subst h4; exact congrArg₂ Instr.key (ofNat_mod v 3) (getLsbD_eq_decide v 7).symm
  · have rest : 5 ≤ r.toNat := by bv_omega
    obtain ⟨n, hn⟩ := Nat.exists_eq_add_of_le' rest
    rw [hn]; rfl

theorem ruleCommand_channel (p : Config.Params) (r : BitVec 4) (c : BitVec 3) (v : Byte) :
    ruleCommand p (channelKey r c).toNat v.toNat = ifChannel p c (channelCommand r c v) := by
  have key := channelKey_toNat r c
  have below : ¬ 0x80000000 ≤ (channelKey r c).toNat := by omega
  have notG : ¬ (channelKey r c).toNat < 16 := by omega
  have range : 0x100 ≤ (channelKey r c).toNat ∧ (channelKey r c).toNat ≤ 0x17F := by omega
  have register : (channelKey r c).toNat % 16 = r.toNat := by omega
  have channel : (channelKey r c).toNat / 16 % 8 = c.toNat := by omega
  unfold ruleCommand
  rw [if_neg below, if_neg notG, if_pos range, register, channel, ifChannel_eq_ite]
  dsimp only
  rw [ofNat_toNat_self c]
  refine if_congr Iff.rfl rfl ?_
  unfold channelCommand
  split_ifs with h0 h1 h2 h3
  · subst h0; exact congrArg (Instr.freqLo c) (ofNat_toNat_self v)
  · subst h1; exact congrArg₂ (Instr.freqHi c) (ofNat_mod v 3) (ofNat_digit v 3 3)
  · subst h2; exact congrArg₂ (Instr.algFb c) (ofNat_mod v 3) (ofNat_digit v 3 3)
  · subst h3
    exact congr (congrArg₂ (Instr.panLfo c) (ofNat_mod v 2) (ofNat_digit v 2 2)) (ofNat_digit v 4 3)
  · have rest : 4 ≤ r.toNat := by bv_omega
    obtain ⟨n, hn⟩ := Nat.exists_eq_add_of_le' rest
    rw [hn]; rfl

theorem ruleCommand_operator (p : Config.Params) (r : BitVec 4) (c : BitVec 3) (k : BitVec 2)
    (v : Byte) :
    ruleCommand p (operatorKey r c k).toNat v.toNat = ifOperator p c k (operatorCommand r c k v) := by
  have key := operatorKey_toNat r c k
  have below : ¬ 0x80000000 ≤ (operatorKey r c k).toNat := by omega
  have notG : ¬ (operatorKey r c k).toNat < 16 := by omega
  have notC : ¬ (0x100 ≤ (operatorKey r c k).toNat ∧ (operatorKey r c k).toNat ≤ 0x17F) := by omega
  have range : 0x200 ≤ (operatorKey r c k).toNat ∧ (operatorKey r c k).toNat ≤ 0x3FF := by omega
  have register : (operatorKey r c k).toNat % 16 = r.toNat := by omega
  have channel : (operatorKey r c k).toNat / 64 % 8 = c.toNat := by omega
  have operator : (operatorKey r c k).toNat / 16 % 4 = k.toNat := by omega
  unfold ruleCommand
  rw [if_neg below, if_neg notG, if_neg notC, if_pos range, register, channel, operator,
    ifOperator_eq_ite]
  dsimp only
  rw [ofNat_toNat_self c, ofNat_toNat_self k]
  refine if_congr Iff.rfl rfl ?_
  unfold operatorCommand
  split_ifs with h0 h1 h2 h3 h4 h5 h6 h7
  · subst h0; exact congrArg₂ (Instr.mulDt c k) (ofNat_mod v 4) (ofNat_digit v 4 3)
  · subst h1; exact congrArg (Instr.tl c k) (ofNat_mod v 7)
  · subst h2; exact congrArg (Instr.ar c k) (ofNat_mod v 6)
  · subst h3; exact congrArg (Instr.dr c k) (ofNat_mod v 6)
  · subst h4; exact congrArg (Instr.sr c k) (ofNat_mod v 6)
  · subst h5; exact congrArg (Instr.rr c k) (ofNat_mod v 6)
  · subst h6; exact congrArg₂ (Instr.slKs c k) (ofNat_mod v 4) (ofNat_digit v 4 2)
  · subst h7
    exact congr (congrArg₂ (Instr.egtSsg c k) (ofNat_mod v 4) (getLsbD_eq_decide v 4).symm)
      (getLsbD_eq_decide v 5).symm
  · have rest : 8 ≤ r.toNat := by bv_omega
    obtain ⟨n, hn⟩ := Nat.exists_eq_add_of_le' rest
    rw [hn]; rfl

theorem ruleCommand_pseudo (p : Config.Params) {a : Key} (v : Byte) (h : 0x80000000 ≤ a.toNat) :
    ruleCommand p a.toNat v.toNat = .wait ((a ++ v).extractLsb' 0 24) := by
  unfold ruleCommand
  rw [if_pos h]
  refine congrArg Instr.wait (BitVec.eq_of_toNat_eq ?_)
  rw [BitVec.toNat_ofNat, BitVec.extractLsb'_toNat, toNat_append_add, Nat.shiftRight_eq_div_pow]
  omega

theorem ruleCommand_none (p : Config.Params) {a : Key} (v : Byte) (below : a.toNat < 0x80000000)
    (notG : 16 ≤ a.toNat) (notC : a.toNat / 128 ≠ 2) (notO : a.toNat / 512 ≠ 1) :
    ruleCommand p a.toNat v.toNat = .unmapped := by
  have noP : ¬ 0x80000000 ≤ a.toNat := by omega
  have noG : ¬ a.toNat < 16 := by omega
  have noC : ¬ (0x100 ≤ a.toNat ∧ a.toNat ≤ 0x17F) := by omega
  have noO : ¬ (0x200 ≤ a.toNat ∧ a.toNat ≤ 0x3FF) := by omega
  unfold ruleCommand
  rw [if_neg noP, if_neg noG, if_neg noC, if_neg noO]

/-- Settles O2: for each form of a key, decoder and transcription give one command. -/
theorem decodeFollowsAddressRanges : Obligations.DecodeFollowsAddressRanges := by
  intro p a v hmap
  cases keyForm a with
  | pseudo h => rw [decodeEntry_pseudo hmap v h, ruleCommand_pseudo p v h]
  | global r => rw [decodeEntry_globalKey hmap, ruleCommand_global]
  | channel r c => rw [decodeEntry_channelKey hmap, ruleCommand_channel]
  | operator r c k => rw [decodeEntry_operatorKey hmap, ruleCommand_operator]
  | none below notG notC notO =>
    rw [decodeEntry_none hmap v below notG notC notO, ruleCommand_none p v below notG notC notO]

end Sys2Proof
end

section
/-!
SUPPORT. Which entries are unmapped, and which bits of an entry its command does not look at.
-/

namespace Sys2Proof

open Sys2Proof.Machine

/-! ## Unmapped keys -/

/-- R86's list as ranges of numbers. -/
theorem unmappedKey_iff {p : Config.Params} {a : Key} :
    unmappedKey p a = true ↔ a.toNat < 0x80000000 ∧
      ((((5 ≤ a.toNat ∧ a.toNat ≤ 0x0FF ∨
        0x100 ≤ a.toNat ∧ a.toNat ≤ 0x17F ∧ (4 ≤ a.toNat % 16 ∨ p.nch ≤ a.toNat / 16 % 8)) ∨
        0x180 ≤ a.toNat ∧ a.toNat ≤ 0x1FF) ∨
        0x200 ≤ a.toNat ∧ a.toNat ≤ 0x3FF ∧
          (8 ≤ a.toNat % 16 ∨ p.nch ≤ a.toNat / 64 % 8 ∨ p.ops.count ≤ a.toNat / 16 % 4)) ∨
        0x400 ≤ a.toNat) := by
  simp only [unmappedKey, Bool.and_eq_true, Bool.or_eq_true, decide_eq_true_eq]

theorem unmappedKey_globalKey {p : Config.Params} {r : BitVec 4} :
    unmappedKey p (globalKey r) = true ↔ 5 ≤ r.toNat := by
  rw [unmappedKey_iff, globalKey_toNat]; omega

theorem unmappedKey_channelKey {p : Config.Params} {r : BitVec 4} {c : BitVec 3} :
    unmappedKey p (channelKey r c) = true ↔ p.nch ≤ c.toNat ∨ 4 ≤ r.toNat := by
  rw [unmappedKey_iff, channelKey_toNat]; omega

theorem unmappedKey_operatorKey {p : Config.Params} {r : BitVec 4} {c : BitVec 3} {k : BitVec 2} :
    unmappedKey p (operatorKey r c k) = true ↔
      (p.nch ≤ c.toNat ∨ p.ops.count ≤ k.toNat) ∨ 8 ≤ r.toNat := by
  rw [unmappedKey_iff, operatorKey_toNat]; omega

theorem unmappedKey_of_le {p : Config.Params} {a : Key} (h : 0x80000000 ≤ a.toNat) :
    unmappedKey p a ≠ true := by
  rw [Ne, unmappedKey_iff]; omega

theorem unmappedKey_none {p : Config.Params} {a : Key} (below : a.toNat < 0x80000000)
    (notG : 16 ≤ a.toNat) (notC : a.toNat / 128 ≠ 2) (notO : a.toNat / 512 ≠ 1) :
    unmappedKey p a = true := by
  rw [unmappedKey_iff]; omega

/-! The registers of each format that no row has. -/

theorem globalCommand_eq_unmapped_iff {r : BitVec 4} {v : Byte} :
    globalCommand r v = .unmapped ↔ 5 ≤ r.toNat := by
  unfold globalCommand
  split_ifs <;> simp only [false_iff, true_iff] <;> bv_omega

theorem channelCommand_eq_unmapped_iff {r : BitVec 4} {c : BitVec 3} {v : Byte} :
    channelCommand r c v = .unmapped ↔ 4 ≤ r.toNat := by
  unfold channelCommand
  split_ifs <;> simp only [false_iff, true_iff] <;> bv_omega

theorem operatorCommand_eq_unmapped_iff {r : BitVec 4} {c : BitVec 3} {k : BitVec 2} {v : Byte} :
    operatorCommand r c k v = .unmapped ↔ 8 ≤ r.toNat := by
  unfold operatorCommand
  split_ifs <;> simp only [false_iff, true_iff] <;> bv_omega

/-- R86: the keys that decode to UNMAPPED in the reference map. -/
theorem decodeEntry_eq_unmapped_iff {p : Config.Params} (hmap : p.map = Config.referenceMap) (a : Key)
    (v : Byte) : decodeEntry p (a ++ v) = .unmapped ↔ unmappedKey p a = true := by
  cases keyForm a with
  | pseudo h =>
    rw [decodeEntry_pseudo hmap v h]
    exact iff_of_false Instr.noConfusion (unmappedKey_of_le h)
  | global r => rw [decodeEntry_globalKey hmap, globalCommand_eq_unmapped_iff, unmappedKey_globalKey]
  | channel r c =>
    rw [decodeEntry_channelKey hmap, ifChannel_eq_ite, ite_eq_left_iff, channelCommand_eq_unmapped_iff,
      unmappedKey_channelKey, or_iff_not_imp_left]
  | operator r c k =>
    rw [decodeEntry_operatorKey hmap, ifOperator_eq_ite, ite_eq_left_iff,
      operatorCommand_eq_unmapped_iff, unmappedKey_operatorKey, ← or_iff_not_imp_left]
  | none below notG notC notO =>
    exact iff_of_true (decodeEntry_none hmap v below notG notC notO)
      (unmappedKey_none below notG notC notO)

/-- Settles O4: UNMAPPED read off the decoder format by format; that no entry traps is that every decoded entry is a
queue command. -/
theorem unmappedKeysAreSilentlyIgnored : Obligations.UnmappedKeysAreSilentlyIgnored :=
  ⟨fun _ a v hmap => decodeEntry_eq_unmapped_iff hmap a v,
    fun _ _ v hmap h => ⟨_, decodeEntry_pseudo hmap v h⟩,
    fun s => exec_queueCommand (i := .unmapped) rfl s,
    fun p e s => ⟨_, exec_queueCommand (decodeEntry_isQueueCommand p e) s⟩⟩

/-! ## Bytes that agree on a mask -/

section
variable {v v' m : Byte} (h : v &&& m = v' &&& m)
include h

/-- Bytes that agree on a mask agree field by field on that field's part of it. -/
theorem extractLsb'_and_of_masked (lo len : Nat) :
    v.extractLsb' lo len &&& m.extractLsb' lo len = v'.extractLsb' lo len &&& m.extractLsb' lo len := by
  rw [← BitVec.extractLsb'_and, h, BitVec.extractLsb'_and]

/-- They agree on a field that the mask keeps whole. -/
theorem extractLsb'_eq_of_masked {lo len : Nat} (kept : m.extractLsb' lo len = BitVec.allOnes len) :
    v.extractLsb' lo len = v'.extractLsb' lo len := by
  simpa only [kept, BitVec.and_allOnes] using extractLsb'_and_of_masked h lo len

/-- They agree on a flag that the mask keeps. -/
theorem getLsbD_eq_of_masked {i : Nat} (kept : m.getLsbD i = true) : v.getLsbD i = v'.getLsbD i := by
  simpa only [BitVec.getLsbD_and, kept, Bool.and_true] using congrArg (BitVec.getLsbD · i) h

end

/-- Bytes that agree on all bits are the same. -/
theorem eq_of_masked_allOnes {v v' : Byte} (h : v &&& 0xFF = v' &&& 0xFF) : v = v' := by
  change v &&& BitVec.allOnes 8 = v' &&& BitVec.allOnes 8 at h
  simpa only [BitVec.and_allOnes] using h

/-! ## Reserved value bits -/

section
variable {p : Config.Params}

/-- R85, format G. -/
theorem usedValueBits_globalKey {r : BitVec 4} (hr : r.toNat < 5) :
    usedValueBits p (globalKey r) =
      if r = 1 then 0xFF else if r = 2 then 0xFF else if r = 3 then 0x33 else if r = 4 then 0x87
      else 0x00 := by
  have mapped : unmappedKey p (globalKey r) ≠ true := by rw [Ne, unmappedKey_globalKey]; omega
  have range : (globalKey r).toNat < 0x100 := by rw [globalKey_toNat]; omega
  unfold usedValueBits
  dsimp only
  rw [if_neg mapped, if_pos range, globalKey_toNat]
  split_ifs with h1 h2 h3 h4
  · subst h1; rfl
  · subst h2; rfl
  · subst h3; rfl
  · subst h4; rfl
  · obtain rfl : r = 0 := by bv_omega
    rfl

/-- R85, format C: with two operators ALG is one bit. -/
theorem usedValueBits_channelKey {r : BitVec 4} {c : BitVec 3} (hc : hasChannel p c = true)
    (hr : r.toNat < 4) :
    usedValueBits p (channelKey r c) =
      if r = 0 then 0xFF else if r = 1 then 0x3F
      else if r = 2 then (if p.ops = .two then 0x39 else 0x3F) else 0x7F := by
  have present := hasChannel_iff.mp hc
  have mapped : unmappedKey p (channelKey r c) ≠ true := by rw [Ne, unmappedKey_channelKey]; omega
  have key := channelKey_toNat r c
  have notG : ¬ (channelKey r c).toNat < 0x100 := by omega
  have range : (channelKey r c).toNat < 0x200 := by omega
  have register : (channelKey r c).toNat % 16 = r.toNat := by omega
  unfold usedValueBits
  dsimp only
  rw [if_neg mapped, if_neg notG, if_pos range, register]
  generalize (if p.ops = .two then (0x39 : Byte) else 0x3F) = algFbBits
  split_ifs with h0 h1 h2
  · subst h0; rfl
  · subst h1; rfl
  · subst h2; rfl
  · obtain rfl : r = 3 := by bv_omega
    rfl

/-- R85, format O. -/
theorem usedValueBits_operatorKey {r : BitVec 4} {c : BitVec 3} {k : BitVec 2}
    (hk : hasOperator p c k = true) (hr : r.toNat < 8) :
    usedValueBits p (operatorKey r c k) = if r = 0 then 0x7F else if r = 1 then 0x7F else 0x3F := by
  obtain ⟨hasC, hasK⟩ := hasOperator_iff.mp hk
  have mapped : unmappedKey p (operatorKey r c k) ≠ true := by
    rw [Ne, unmappedKey_operatorKey]; omega
  have key := operatorKey_toNat r c k
  have notG : ¬ (operatorKey r c k).toNat < 0x100 := by omega
  have notC : ¬ (operatorKey r c k).toNat < 0x200 := by omega
  have register : (operatorKey r c k).toNat % 16 = r.toNat := by omega
  unfold usedValueBits
  dsimp only
  rw [if_neg mapped, if_neg notG, if_neg notC, register]
  split_ifs with h0 h1
  · subst h0; rfl
  · subst h1; rfl
  · have rest : 2 ≤ r.toNat := by bv_omega
    obtain ⟨n, hn⟩ := Nat.exists_eq_add_of_le' rest
    rw [hn]; rfl

end

/-- ALG_FB looks at what it stores of ALG (R257). -/
theorem exec_algFb_congr {s : State} (c : BitVec 3) {alg alg' fb fb' : BitVec 3}
    (halg : storedAlg s.cfg.ops alg = storedAlg s.cfg.ops alg') (hfb : fb = fb') :
    exec (.algFb c alg fb) s = exec (.algFb c alg' fb') s := by
  change Host.Outcome.next (cmdAlgFb c alg fb s) = .next (cmdAlgFb c alg' fb' s)
  rw [cmdAlgFb, cmdAlgFb, halg, hfb]

/-- The bits of ALG that R85 does not reserve are the ones stored. -/
theorem storedAlg_eq_of_masked {ops : Config.OperatorCount} {v v' : Byte}
    (h : v &&& (if ops = .two then 0x39 else 0x3F) = v' &&& (if ops = .two then 0x39 else 0x3F)) :
    storedAlg ops (v.extractLsb' 0 3) = storedAlg ops (v'.extractLsb' 0 3) ∧
      v.extractLsb' 3 3 = v'.extractLsb' 3 3 := by
  cases ops with
  | two => exact ⟨extractLsb'_and_of_masked h 0 3, extractLsb'_eq_of_masked h (by decide)⟩
  | four => exact ⟨extractLsb'_eq_of_masked h (by decide), extractLsb'_eq_of_masked h (by decide)⟩

theorem globalCommand_congr {p : Config.Params} {r : BitVec 4} {v v' : Byte} (hr : r.toNat < 5)
    (h : v &&& usedValueBits p (globalKey r) = v' &&& usedValueBits p (globalKey r)) :
    globalCommand r v = globalCommand r v' := by
  rw [usedValueBits_globalKey hr] at h
  unfold globalCommand
  split_ifs with h0 h1 h2 h3 h4
  · rfl
  · subst h1; exact congrArg Instr.lfoAmFreq (eq_of_masked_allOnes h)
  · subst h2; exact congrArg Instr.lfoPmFreq (eq_of_masked_allOnes h)
  · subst h3
    change v &&& 0x33 = v' &&& 0x33 at h
    exact congrArg₂ Instr.lfoWave (extractLsb'_eq_of_masked h (by decide))
      (extractLsb'_eq_of_masked h (by decide))
  · subst h4
    change v &&& 0x87 = v' &&& 0x87 at h
    exact congrArg₂ Instr.key (extractLsb'_eq_of_masked h (by decide))
      (getLsbD_eq_of_masked h (by decide))
  · rfl

theorem exec_channelCommand_congr {s : State} {r : BitVec 4} {c : BitVec 3} {v v' : Byte}
    (hc : hasChannel s.cfg c = true) (hr : r.toNat < 4)
    (h : v &&& usedValueBits s.cfg (channelKey r c) = v' &&& usedValueBits s.cfg (channelKey r c)) :
    exec (channelCommand r c v) s = exec (channelCommand r c v') s := by
  rw [usedValueBits_channelKey hc hr] at h
  unfold channelCommand
  split_ifs with h0 h1 h2 h3
  · subst h0; rw [eq_of_masked_allOnes h]
  · subst h1
    change v &&& 0x3F = v' &&& 0x3F at h
    rw [extractLsb'_eq_of_masked h (lo := 0) (len := 3) (by decide),
      extractLsb'_eq_of_masked h (lo := 3) (len := 3) (by decide)]
  · subst h2
    obtain ⟨halg, hfb⟩ := storedAlg_eq_of_masked h
    exact exec_algFb_congr c halg hfb
  · subst h3
    change v &&& 0x7F = v' &&& 0x7F at h
    rw [extractLsb'_eq_of_masked h (lo := 0) (len := 2) (by decide),
      extractLsb'_eq_of_masked h (lo := 2) (len := 2) (by decide),
      extractLsb'_eq_of_masked h (lo := 4) (len := 3) (by decide)]
  · rfl

theorem operatorCommand_congr {p : Config.Params} {r : BitVec 4} {c : BitVec 3} {k : BitVec 2}
    {v v' : Byte} (hk : hasOperator p c k = true) (hr : r.toNat < 8)
    (h : v &&& usedValueBits p (operatorKey r c k) = v' &&& usedValueBits p (operatorKey r c k)) :
    operatorCommand r c k v = operatorCommand r c k v' := by
  rw [usedValueBits_operatorKey hk hr] at h
  have rate : v.extractLsb' 0 6 = v'.extractLsb' 0 6 :=
    extractLsb'_eq_of_masked h (by split_ifs <;> decide)
  unfold operatorCommand
  split_ifs with h0 h1 h2 h3 h4 h5 h6 h7
  · subst h0
    change v &&& 0x7F = v' &&& 0x7F at h
    exact congrArg₂ (Instr.mulDt c k) (extractLsb'_eq_of_masked h (by decide))
      (extractLsb'_eq_of_masked h (by decide))
  · subst h1
    change v &&& 0x7F = v' &&& 0x7F at h
    exact congrArg (Instr.tl c k) (extractLsb'_eq_of_masked h (by decide))
  · exact congrArg (Instr.ar c k) rate
  · exact congrArg (Instr.dr c k) rate
  · exact congrArg (Instr.sr c k) rate
  · exact congrArg (Instr.rr c k) rate
  · subst h6
    change v &&& 0x3F = v' &&& 0x3F at h
    exact congrArg₂ (Instr.slKs c k) (extractLsb'_eq_of_masked h (by decide))
      (extractLsb'_eq_of_masked h (by decide))
  · subst h7
    change v &&& 0x3F = v' &&& 0x3F at h
    exact congr (congrArg₂ (Instr.egtSsg c k) (extractLsb'_eq_of_masked h (by decide))
      (getLsbD_eq_of_masked h (by decide))) (getLsbD_eq_of_masked h (by decide))
  · rfl

/-- R85, value bits: the command of a mapped key reads only the used bits, and that of an unmapped key none. -/
theorem exec_decodeEntry_congr {s : State} {a : Key} {v v' : Byte}
    (hmap : s.cfg.map = Config.referenceMap) (below : a.toNat < 0x80000000)
    (h : v &&& usedValueBits s.cfg a = v' &&& usedValueBits s.cfg a) :
    exec (decodeEntry s.cfg (a ++ v)) s = exec (decodeEntry s.cfg (a ++ v')) s := by
  by_cases mapped : unmappedKey s.cfg a = true
  · rw [(decodeEntry_eq_unmapped_iff hmap a v).mpr mapped,
      (decodeEntry_eq_unmapped_iff hmap a v').mpr mapped]
  cases keyForm a with
  | pseudo high => omega
  | global r =>
    rw [unmappedKey_globalKey] at mapped
    rw [decodeEntry_globalKey hmap, decodeEntry_globalKey hmap, globalCommand_congr (by omega) h]
  | channel r c =>
    rw [unmappedKey_channelKey] at mapped
    have hc : hasChannel s.cfg c = true := hasChannel_iff.mpr (by omega)
    rw [decodeEntry_channelKey hmap, decodeEntry_channelKey hmap, ifChannel, ifChannel, if_pos hc,
      if_pos hc]
    exact exec_channelCommand_congr hc (by omega) h
  | operator r c k =>
    rw [unmappedKey_operatorKey] at mapped
    have hk : hasOperator s.cfg c k = true := hasOperator_iff.mpr (by omega)
    rw [decodeEntry_operatorKey hmap, decodeEntry_operatorKey hmap, operatorCommand_congr hk (by omega) h]
  | none below notG notC notO => exact absurd (unmappedKey_none below notG notC notO) mapped

/-- R85, address bits: a WAIT looks at `A[15:0]` only. -/
theorem decodeEntry_pseudo_congr {p : Config.Params} {a a' : Key} (v : Byte)
    (hmap : p.map = Config.referenceMap) (h : 0x80000000 ≤ a.toNat) (h' : 0x80000000 ≤ a'.toNat)
    (count : a.toNat % 65536 = a'.toNat % 65536) : decodeEntry p (a ++ v) = decodeEntry p (a' ++ v) := by
  rw [decodeEntry_pseudo hmap v h, decodeEntry_pseudo hmap v h']
  refine congrArg Instr.wait (BitVec.eq_of_toNat_eq ?_)
  rw [BitVec.extractLsb'_toNat, BitVec.extractLsb'_toNat, toNat_append_add, toNat_append_add,
    Nat.shiftRight_eq_div_pow, Nat.shiftRight_eq_div_pow]
  omega

/-- Settles O5: the used bits of each row are the bits its operands are made of. -/
theorem reservedBitsAreIgnored : Obligations.ReservedBitsAreIgnored :=
  ⟨fun _ _ _ _ => exec_decodeEntry_congr, fun _ _ _ v => decodeEntry_pseudo_congr v⟩

end Sys2Proof
end

section
/-!
SUPPORT. The words of the document: worked encodings, operation codes, pseudo-instructions.
-/

namespace Sys2Proof

open Sys2Proof.Machine

/-- Settles O3: closed words, each of them evaluated. -/
theorem writtenOutWordsDecode : Obligations.WrittenOutWordsDecode := by
  unfold Obligations.WrittenOutWordsDecode
  decide

/-- Settles O6: one equation of the decoder for each code, and the step's refusal of the other two. -/
theorem hostOperationCodes : Obligations.HostOperationCodes :=
  ⟨fun _ _ => rfl, decodeCall_write, decodeCall_read, fun _ _ => rfl, fun _ _ => rfl, fun _ _ => rfl,
    fun _ _ _ hscript hcode => step_of_decodeCall_error hscript (decodeCall_noSuchCode hcode)⟩

/-! ## The assembler -/

/-- R88: a command assembles to one `WR` of its key and its value. -/
theorem assemble_of_encode {i : Instr} {a : Key} {v : Byte} (h : encode i = .entry (a ++ v)) :
    assemble i = ⟨1, a.toNat, v.toNat⟩ := by
  rw [assemble, h]
  exact congrArg₂ (fun (x : Key) (y : Byte) => HostCall.mk 1 x.toNat y.toNat)
    BitVec.extractLsb'_append_eq_left BitVec.extractLsb'_append_eq_right

theorem assemble_of_encode_globalEntry {i : Instr} {r : BitVec 4} {v : Byte}
    (h : encode i = .entry (globalEntry r v)) : assemble i = ⟨1, r.toNat, v.toNat⟩ := by
  rw [assemble_of_encode (a := globalKey r) h, globalKey_toNat]

theorem assemble_of_encode_channelEntry {i : Instr} {r : BitVec 4} {c : BitVec 3} {v : Byte}
    (h : encode i = .entry (channelEntry r c v)) :
    assemble i = ⟨1, 256 + c.toNat * 16 + r.toNat, v.toNat⟩ := by
  rw [assemble_of_encode (a := channelKey r c) h, channelKey_toNat]

theorem assemble_key (c : BitVec 3) (on : Bool) :
    assemble (.key c on) = ⟨1, 4, on.toNat * 128 + c.toNat⟩ := by
  have value : (BitVec.ofBool on ++ 0#4 ++ c).toNat = on.toNat * 128 + c.toNat := by
    rw [toNat_append_add, toNat_append_add, BitVec.toNat_ofBool, BitVec.toNat_ofNat]; omega
  rw [assemble_of_encode_globalEntry rfl]
  exact congrArg (HostCall.mk 1 4) value

theorem assemble_freqLo (c : BitVec 3) (lo : BitVec 8) :
    assemble (.freqLo c lo) = ⟨1, 0x100 + 16 * c.toNat, lo.toNat⟩ := by
  rw [assemble_of_encode_channelEntry rfl, Nat.mul_comm 16]
  rfl

theorem assemble_freqHi (c fhi block : BitVec 3) :
    assemble (.freqHi c fhi block) =
      ⟨1, 0x101 + 16 * c.toNat, fhi.toNat + 8 * block.toNat⟩ := by
  have key : 256 + c.toNat * 16 + (1#4).toNat = 0x101 + 16 * c.toNat := by
    rw [BitVec.toNat_ofNat]; omega
  have value : (0#2 ++ block ++ fhi).toNat = fhi.toNat + 8 * block.toNat := by
    rw [toNat_append_add, toNat_append_add, BitVec.toNat_ofNat]; omega
  rw [assemble_of_encode_channelEntry rfl]
  exact congrArg₂ (HostCall.mk 1) key value

/-- R89: FREQ writes the low byte of the mantissa, then its high bits below the block. -/
theorem assemble_freqMacro (c : BitVec 3) (fnum : BitVec 11) (block : BitVec 3) :
    (freqMacro c fnum block).map assemble =
      [⟨1, 0x100 + 16 * c.toNat, fnum.toNat % 256⟩,
        ⟨1, 0x101 + 16 * c.toNat, fnum.toNat / 256 + 8 * block.toNat⟩] := by
  have low : (fnum.extractLsb' 0 8).toNat = fnum.toNat % 256 := by
    rw [BitVec.extractLsb'_toNat, Nat.shiftRight_zero]
  have high : (fnum.extractLsb' 8 3).toNat = fnum.toNat / 256 := by
    rw [BitVec.extractLsb'_toNat, Nat.shiftRight_eq_div_pow]; omega
  simp only [freqMacro, List.map_cons, List.map_nil, assemble_freqLo, assemble_freqHi, low, high]

theorem map_assemble_keyOnMacro (c : BitVec 3) :
    (keyOnMacro c).map assemble = [⟨1, 0x004, 128 + c.toNat⟩] :=
  congrArg (List.cons · []) (assemble_key c true)

theorem map_assemble_keyOffMacro (c : BitVec 3) :
    (keyOffMacro c).map assemble = [⟨1, 0x004, c.toNat⟩] := by
  have call := assemble_key c false
  rw [Bool.toNat_false, Nat.zero_mul, Nat.zero_add] at call
  exact congrArg (List.cons · []) call

/-- Settles O7: KEY and FREQ by what they assemble to, the others as they stand. -/
theorem pseudoInstructionsExpand : Obligations.PseudoInstructionsExpand :=
  ⟨fun c => ⟨rfl, map_assemble_keyOnMacro c⟩, fun c => ⟨rfl, map_assemble_keyOffMacro c⟩,
    assemble_freqMacro, rfl, rfl, exec_queueCommand (i := .statusW) rfl, fun _ => rfl, fun _ => rfl⟩

end Sys2Proof
end

section
/-!
SUPPORT. The log and linear tables (R100 to R109). A printed table is read once along its entries; `EXPTAB` is an order
by powers of two; `logToLinear` and `linearToLog` go by attenuation and sign; and the one law of the search is that
`attOf m ≤ a` exactly when `LINMAG(a) ≤ m`.
-/

/- The tables are evaluated one after another, and after the proofs before them: evaluated together they take more
memory than the sandbox allows. -/
set_option Elab.async false

namespace Sys2Proof.Machine

/-! ## A table as the list of its entries -/

/-- Rows of equal width, read by row and column, are one list read by place. -/
theorem romAt?_eq_flatten {α : Type} {width : Nat} (hpos : 0 < width) :
    ∀ {rows : List (List α)}, (∀ row ∈ rows, row.length = width) →
      ∀ i : Nat, romAt? rows width i = rows.flatten[i]?
  | [], _, _ => rfl
  | row :: rows, hwidth, i => by
    obtain ⟨hrow, hrows⟩ := List.forall_mem_cons.mp hwidth
    rw [List.flatten_cons]
    by_cases hfirst : i < width
    · rw [List.getElem?_append_left (by omega), romAt?, Nat.div_eq_of_lt hfirst, Nat.mod_eq_of_lt hfirst]
      rfl
    · rw [List.getElem?_append_right (by omega), hrow, ← romAt?_eq_flatten hpos hrows, romAt?, romAt?,
        Nat.div_eq_sub_div hpos (by omega), Nat.mod_eq_sub_mod (by omega), List.getElem?_cons_succ]

theorem map_finRange_of_getElem? {n : Nat} {l : List Nat} {f : Fin n → Nat} (hlen : l.length = n)
    (hget : ∀ i : Fin n, l[i.val]? = some (f i)) : (List.finRange n).map f = l := by
  refine List.ext_getElem (by simp [hlen]) fun j _ hj => ?_
  have hentry := hget ⟨j, by omega⟩
  rw [List.getElem?_eq_getElem hj] at hentry
  simpa using (Option.some.inj hentry).symm

theorem expTab_getElem? (i : Fin 256) : expTabRows.flatten[i.val]? = some (expTab i) := by
  rw [← romAt?_eq_flatten (width := 8) (by decide) (by decide), romAt?_expTab]

theorem sini_getElem? (i : Fin 256) : siniRows.flatten[i.val]? = some (sini i) := by
  rw [← romAt?_eq_flatten (width := 8) (by decide) (by decide), romAt?_sini]

theorem sinAtt_getElem? (i : Fin 256) : sinAttRows.flatten[i.val]? = some (sinAtt i) := by
  rw [← romAt?_eq_flatten (width := 16) (by decide) (by decide), romAt?_sinAtt]

/-! ## `EXPTAB` -/

/-- R101 on the printed table. -/
theorem expTabRows_rounds : ∀ entry ∈ expTabRows.flatten.zipIdx,
    (2 * entry.1 - 1) ^ 256 < 2 ^ (4864 - entry.2) ∧ 2 ^ (4864 - entry.2) < (2 * entry.1 + 1) ^ 256 := by
  decide +kernel

/-- R101: `2n - 1 < 2 * 2^(18 - i/256) < 2n + 1`, raised to the 256th power; entry 0 meets it too. -/
theorem expTab_rounds (i : Fin 256) :
    (2 * expTab i - 1) ^ 256 < 2 ^ (4864 - i.val) ∧ 2 ^ (4864 - i.val) < (2 * expTab i + 1) ^ 256 :=
  expTabRows_rounds (expTab i, i.val) (List.mk_mem_zipIdx_iff_getElem?.mpr (expTab_getElem? i))

theorem sum_expTab : ((List.finRange 256).map expTab).sum = 48474373 := by
  rw [map_finRange_of_getElem? (by rw [List.length_flatten]; rfl) expTab_getElem?]
  decide +kernel

/-- Settles O36: the inequality is evaluated entry by entry along the printed table. -/
theorem expTableIsRoundedPowers : Obligations.ExpTableIsRoundedPowers :=
  ⟨rfl, fun i _ => expTab_rounds i, sum_expTab⟩

/-! ## `LINMAG` -/

theorem linMag_of_le_ceiling {a : Nat} (h : a ≤ 4095) :
    linMag a = expTab (Fin.ofNat 256 a) / 2 ^ (a / 256) := by
  rw [linMag, if_pos h, Nat.shiftRight_eq_div_pow]

theorem linMag_zero : linMag 0 = 262144 := rfl

theorem linMag_ceiling : linMag 4095 = 4 := rfl

/-- Nothing below the ceiling is silent. -/
theorem linMag_eq_zero_iff {a : Nat} : linMag a = 0 ↔ 4095 < a := by
  refine ⟨fun hsilent => ?_, linMag_of_ceiling_lt⟩
  by_contra hle
  have hceiling : linMag 4095 ≤ linMag a := linMag_antitone (by omega)
  rw [linMag_ceiling] at hceiling
  omega

/-- R101 as an order: an entry is bounded by what the power of two it rounds is bounded by. -/
theorem expTab_le_iff {i : Fin 256} {n : Nat} : expTab i ≤ n ↔ 2 ^ (4864 - i.val) < (2 * n + 1) ^ 256 := by
  obtain ⟨hlow, hhigh⟩ := expTab_rounds i
  constructor
  · exact fun hle => hhigh.trans_le (Nat.pow_le_pow_left (by omega) 256)
  · intro hpow
    by_contra hgt
    have hback : (2 * n + 1) ^ 256 ≤ (2 * expTab i - 1) ^ 256 := Nat.pow_le_pow_left (by omega) 256
    exact absurd (hpow.trans_le hback) hlow.asymm

/-- The magnitude of an attenuation compared with a value by powers of two alone, without the table. -/
theorem linMag_le_iff {a m : Nat} (h : a ≤ 4095) :
    linMag a ≤ m ↔ 2 ^ (4864 - a % 256) < (2 * ((m + 1) * 2 ^ (a / 256)) - 1) ^ 256 := by
  have hpos : 0 < (m + 1) * 2 ^ (a / 256) := by positivity
  have hodd : 2 * ((m + 1) * 2 ^ (a / 256)) - 1 = 2 * ((m + 1) * 2 ^ (a / 256) - 1) + 1 := by omega
  calc linMag a ≤ m
      ↔ expTab (Fin.ofNat 256 a) < (m + 1) * 2 ^ (a / 256) := by
        rw [linMag_of_le_ceiling h, ← Nat.lt_succ_iff, Nat.div_lt_iff_lt_mul (by positivity)]
    _ ↔ expTab (Fin.ofNat 256 a) ≤ (m + 1) * 2 ^ (a / 256) - 1 := by omega
    _ ↔ _ := by rw [expTab_le_iff, hodd, Fin.val_ofNat]

/-! ## Log words read as linear values -/

/-- R103: an odd index holds the negative of its even neighbour. -/
theorem linTab_eq (L : Fin 8192) {a s : Nat} (hs : s ≤ 1) (hL : L.val = 2 * a + s) :
    linTab L = (-1) ^ s * (linMag a : Int) := by
  obtain ⟨hatt, hsign⟩ : L.val / 2 = a ∧ L.val % 2 = s := by omega
  rw [linTab, hatt, hsign]
  obtain rfl | rfl := Nat.le_one_iff_eq_zero_or_eq_one.mp hs <;> simp

/-- R105: above the ceiling both branches give the magnitude 0, so the ceiling needs no case of its own. -/
theorem logToLinear_eq (L shift : Nat) :
    logToLinear L shift =
      if L % 2 = 1 then -((linMag (L / 2) / 2 ^ shift : Nat) : Int) else (linMag (L / 2) / 2 ^ shift : Nat) := by
  simp only [logToLinear, Nat.shiftRight_eq_div_pow]
  split
  next habove => simp [linMag_of_ceiling_lt habove]
  next => rfl

theorem logToLinear_even (a shift : Nat) : logToLinear (2 * a) shift = (linMag a / 2 ^ shift : Nat) := by
  rw [logToLinear_eq, if_neg (by omega), Nat.mul_div_cancel_left a two_pos]

theorem logToLinear_odd (a shift : Nat) :
    logToLinear (2 * a + 1) shift = -((linMag a / 2 ^ shift : Nat) : Int) := by
  rw [logToLinear_eq, if_pos (by omega), show (2 * a + 1) / 2 = a by omega]

theorem logToLinear_within (L shift : Nat) : Within (262144 / 2 ^ shift : Nat) (logToLinear L shift) := by
  rw [within_iff_natAbs, natAbs_logToLinear, Nat.shiftRight_eq_div_pow]
  exact Nat.div_le_div_right (linMag_le _)

theorem logToLinear_of_ceiling_lt {L : Nat} (h : 8192 ≤ L) (shift : Nat) : logToLinear L shift = 0 := by
  rw [← Int.natAbs_eq_zero, natAbs_logToLinear, linMag_of_ceiling_lt (by omega), Nat.zero_shiftRight]

/-- Settles O37: the magnitude by value and by monotonicity, the sign by the parity of the log word. -/
theorem logToLinearReadsTheMagnitude : Obligations.LogToLinearReadsTheMagnitude :=
  ⟨fun _ => linMag_of_le_ceiling, fun _ => linMag_of_ceiling_lt, fun _ _ => (linMag_antitone ·),
    linMag_zero, rfl, linMag_ceiling, linMag_of_ceiling_lt (by decide),
    fun L _ _ => linTab_eq L, logToLinear_even, logToLinear_odd,
    fun L shift => ⟨logToLinear_within L shift, (logToLinear_of_ceiling_lt · shift)⟩⟩

/-! ## The search for an attenuation -/

/-- The search passes over no attenuation whose magnitude is at most `m`, if none lies below its lower end. -/
theorem lt_linMag_of_lt_searchAtt {m : Nat} :
    ∀ {fuel lo hi : Nat}, (∀ b < lo, m < linMag b) → ∀ b < searchAtt m fuel lo hi, m < linMag b
  | 0, _, _, hbelow => hbelow
  | fuel + 1, lo, hi, hbelow => by
    unfold searchAtt
    split
    next =>
      dsimp only
      split
      next => exact lt_linMag_of_lt_searchAtt hbelow
      next hmid =>
        exact lt_linMag_of_lt_searchAtt fun b hb =>
          (not_le.mp hmid).trans_le (linMag_antitone (Nat.le_of_lt_succ hb))
    next => exact hbelow

theorem lt_linMag_of_lt_attOf {m b : Nat} (h : b < attOf m) : m < linMag b :=
  lt_linMag_of_lt_searchAtt (fun b hb => absurd hb (Nat.not_lt_zero b)) b h

/-- R106: the least attenuation, as a Galois connection: `attOf` and `LINMAG` both fall, and each bounds the other. -/
theorem attOf_le_iff {m a : Nat} : attOf m ≤ a ↔ linMag a ≤ m :=
  ⟨fun h => (linMag_antitone h).trans (linMag_attOf_le m),
    fun h => not_lt.mp fun hlt => absurd h (not_le.mpr (lt_linMag_of_lt_attOf hlt))⟩

theorem attOf_le_ceiling (m : Nat) : attOf m ≤ 4096 :=
  attOf_le_iff.mpr ((linMag_of_ceiling_lt (by decide)).trans_le (Nat.zero_le m))

theorem attOf_eq_of_isLeast {m a : Nat} (hle : linMag a ≤ m) (hleast : m < linMag (a - 1)) : attOf m = a := by
  have hupper : attOf m ≤ a := attOf_le_iff.mpr hle
  have hlower : ¬ attOf m ≤ a - 1 := fun h => absurd (attOf_le_iff.mp h) (not_le.mpr hleast)
  omega

theorem attOf_antitone : Antitone attOf := fun m _ hle =>
  attOf_le_iff.mpr ((linMag_attOf_le m).trans hle)

/-- The least positive magnitude is 4, so what is below 4 is silence. -/
theorem attOf_eq_ceiling_iff {m : Nat} : attOf m = 4096 ↔ m ≤ 3 := by
  have hlast : attOf m ≤ 4095 ↔ 4 ≤ m := by rw [attOf_le_iff, linMag_ceiling]
  have hle := attOf_le_ceiling m
  omega

theorem attOf_eq_zero_iff {m : Nat} : attOf m = 0 ↔ 262144 ≤ m := by
  rw [← Nat.le_zero, attOf_le_iff, linMag_zero]

theorem linMag_attOf_linMag (a : Nat) : linMag (attOf (linMag a)) = linMag a :=
  le_antisymm (linMag_attOf_le _) (linMag_antitone (attOf_le_iff.mpr le_rfl))

theorem linMag_attOf_eq_self_iff {m : Nat} : linMag (attOf m) = m ↔ ∃ a, linMag a = m := by
  constructor
  · exact fun h => ⟨attOf m, h⟩
  · rintro ⟨a, rfl⟩
    exact linMag_attOf_linMag a

theorem linMag_attOf_eq_zero_iff {m : Nat} : linMag (attOf m) = 0 ↔ m ≤ 3 := by
  have hle := attOf_le_ceiling m
  rw [linMag_eq_zero_iff, ← attOf_eq_ceiling_iff]
  omega

/-! ## Linear values written as log words -/

theorem linearToLog_div_two (v : Int) : linearToLog v / 2 = attOf v.natAbs := by
  unfold linearToLog
  split <;> omega

/-- Settles O38: what the search finds is the least, and each corner value is a value of the search. -/
theorem linearToLogFindsTheLeast : Obligations.LinearToLogFindsTheLeast := by
  refine ⟨fun v => ?_, rfl, rfl, rfl, fun v _ hsilent => ?_, fun v hloud => ?_⟩
  · exact ⟨attOf v.natAbs, attOf_le_ceiling _, linMag_attOf_le _, fun _ => lt_linMag_of_lt_attOf, rfl⟩
  · rw [linearToLog_div_two, attOf_eq_ceiling_iff.mpr hsilent]
  · rw [linearToLog_div_two, attOf_eq_zero_iff.mpr hloud]

/-! ## There and back -/

/-- R107: the value of the pair, its sign kept and its size that of the attenuation found. -/
theorem logToLinear_linearToLog (v : Int) :
    logToLinear (linearToLog v) 0 =
      if v < 0 then -(linMag (attOf v.natAbs) : Int) else linMag (attOf v.natAbs) := by
  unfold linearToLog
  split
  · rw [logToLinear_odd, pow_zero, Nat.div_one]
  · rw [Nat.add_zero, logToLinear_even, pow_zero, Nat.div_one]

theorem natAbs_logToLinear_linearToLog (v : Int) :
    (logToLinear (linearToLog v) 0).natAbs = linMag (attOf v.natAbs) := by
  rw [natAbs_logToLinear, linearToLog_div_two, Nat.shiftRight_zero]

/-- Settles O39: the laws are those of `attOf` and `LINMAG` as a Galois connection, with the sign beside them. -/
theorem logPairLaws : Obligations.LogPairLaws := by
  refine ⟨fun v => ⟨fun hpos => ?_, fun hneg => ?_, ?_, ?_, ?_⟩, fun a _ => ⟨?_, fun b hb => ?_⟩,
    fun v w hle => ?_⟩
  · rw [logToLinear_linearToLog, if_neg (by omega)]
    exact Int.natCast_nonneg _
  · rw [logToLinear_linearToLog, if_pos hneg]
    exact Int.neg_nonpos_of_nonneg (Int.natCast_nonneg _)
  · rw [natAbs_logToLinear_linearToLog]
    exact le_min (linMag_attOf_le _) (linMag_le _)
  · rw [natAbs_logToLinear_linearToLog, linMag_attOf_eq_self_iff]
  · rw [← Int.natAbs_eq_zero, natAbs_logToLinear_linearToLog, linMag_attOf_eq_zero_iff]
  · rw [linearToLog_div_two, Int.natAbs_natCast, linMag_attOf_linMag]
  · rw [linearToLog_div_two, Int.natAbs_natCast]
    exact attOf_le_iff.mpr hb.le
  · rw [linearToLog_div_two, linearToLog_div_two]
    exact attOf_antitone hle

/-! ## The log-sine -/

/-- R109 on the printed tables, by powers of two (`linMag_le_iff`): a listed attenuation reaches down to the listed
magnitude and the one before it does not; the extremes stand at the wave's first place and at its crest. -/
theorem sinAttRows_isLeast : ∀ entry ∈ sinAttRows.flatten.zip siniRows.flatten,
    (1 ≤ entry.1 ∧ entry.1 ≤ 2137) ∧
      2 ^ (4864 - entry.1 % 256) < (2 * ((entry.2 + 1) * 2 ^ (entry.1 / 256)) - 1) ^ 256 ∧
      ¬ 2 ^ (4864 - (entry.1 - 1) % 256) < (2 * ((entry.2 + 1) * 2 ^ ((entry.1 - 1) / 256)) - 1) ^ 256 := by
  decide +kernel

theorem sinAtt_isLeast (i : Fin 256) :
    (1 ≤ sinAtt i ∧ sinAtt i ≤ 2137) ∧ linMag (sinAtt i) ≤ sini i ∧ sini i < linMag (sinAtt i - 1) := by
  have hentry : (sinAttRows.flatten.zip siniRows.flatten)[i.val]? = some (sinAtt i, sini i) :=
    List.getElem?_zip_eq_some.mpr ⟨sinAtt_getElem? i, sini_getElem? i⟩
  obtain ⟨hbounds, hreach, hbefore⟩ := sinAttRows_isLeast _ (List.mem_of_getElem? hentry)
  rw [← linMag_le_iff (by omega)] at hreach hbefore
  exact ⟨hbounds, hreach, not_le.mp hbefore⟩

theorem sinAtt_bounds (i : Fin 256) : 1 ≤ sinAtt i ∧ sinAtt i ≤ 2137 := (sinAtt_isLeast i).1

/-- R109: each listed attenuation is the one found for the listed magnitude. -/
theorem attOf_sini (i : Fin 256) : attOf (sini i) = sinAtt i := by
  obtain ⟨_, hreach, hbefore⟩ := sinAtt_isLeast i
  exact attOf_eq_of_isLeast hreach hbefore

/-- The sine has no silent place: an entry of 0 would need the attenuation of silence. -/
theorem sini_pos (i : Fin 256) : 0 < sini i := by
  have haudible : attOf (sini i) ≠ 4096 := by
    have hbounds := sinAtt_bounds i
    rw [attOf_sini]
    omega
  rw [ne_eq, attOf_eq_ceiling_iff] at haudible
  omega

theorem sum_sinAtt : ((List.finRange 256).map sinAtt).sum = 65536 := by
  rw [map_finRange_of_getElem? (by rw [List.length_flatten]; rfl) sinAtt_getElem?]
  decide +kernel

theorem natAbs_sinFull (p : BitVec 10) : (sinFull p).natAbs = sini (quarterIndex p) := by
  unfold sinFull
  split
  · rw [Int.natAbs_neg, Int.natAbs_natCast]
  · exact Int.natAbs_natCast _

theorem sinFull_neg_iff (p : BitVec 10) : sinFull p < 0 ↔ 512 ≤ p.toNat := by
  have hpos := sini_pos (quarterIndex p)
  unfold sinFull
  split <;> omega

/-- The second half of the period is the half that bit 9 of the place selects. -/
theorem toNat_div_512 (p : BitVec 10) : p.toNat / 512 = if 512 ≤ p.toNat then 1 else 0 := by
  have hlt := p.isLt
  split <;> omega

theorem sinTab_eq_linearToLog (p : BitVec 10) : sinTab p = linearToLog (sinFull p) := by
  simp only [sinTab, linearToLog, natAbs_sinFull, attOf_sini, sinFull_neg_iff, toNat_div_512]

theorem sinTab_div_two (p : BitVec 10) : sinTab p / 2 = sinAtt (quarterIndex p) := by
  rw [sinTab_eq_linearToLog, linearToLog_div_two, natAbs_sinFull, attOf_sini]

theorem sinTab_mod_two (p : BitVec 10) : sinTab p % 2 = p.toNat / 512 := by
  have hlt := p.isLt
  unfold sinTab
  omega

theorem quarterIndex_eq_ofNat (p : BitVec 10) :
    quarterIndex p =
      Fin.ofNat 256 (if p.toNat % 512 < 256 then p.toNat % 512 else 511 - p.toNat % 512) := by
  apply Fin.ext
  rw [Fin.val_ofNat]
  unfold quarterIndex
  split <;> dsimp only <;> omega

/-- Settles O40: attenuation by the quarter wave, sign by the half of the period; the listed places are evaluated. -/
theorem sineTableIsTheLogSine : Obligations.SineTableIsTheLogSine := by
  refine ⟨fun p => ⟨sinTab_eq_linearToLog p, sinTab_mod_two p, ?_⟩, fun p => ?_, sum_sinAtt,
    rfl, rfl, rfl, rfl, rfl, rfl, rfl, rfl⟩
  · rw [sinTab_div_two]
    exact sinAtt_bounds _
  · rw [sinTab_div_two, quarterIndex_eq_ofNat]

end Sys2Proof.Machine
end

section
/-!
SUPPORT. The phase accumulator bank (R120 to R131): the retune of the double buffer on numbers, the wrap of the phase
step, and how far the phase LFO can bend it. What a SAMPLETICK does to one operator is said here once.
-/

namespace Sys2Proof.Machine

/-! ## Retune -/

/-- `FNUM` on numbers: three bits of `FHI_LATCH` above `FLO_LATCH` (R82). -/
theorem fnumOf_toNat (flo : BitVec 8) (fhi : BitVec 6) :
    (fnumOf flo fhi).toNat = fhi.toNat % 8 * 256 + flo.toNat := by
  rw [fnumOf, BitVec.toNat_append, ← Nat.shiftLeft_add_eq_or_of_lt flo.isLt, BitVec.extractLsb'_toNat,
    Nat.shiftLeft_eq, Nat.shiftRight_zero]

/-- `BLOCK` on numbers: the upper three bits of `FHI_LATCH` (R82). -/
theorem blockOf_toNat (fhi : BitVec 6) : (blockOf fhi).toNat = fhi.toNat / 8 := by
  have hlt := fhi.isLt
  rw [blockOf, BitVec.extractLsb'_toNat, Nat.shiftRight_eq_div_pow]
  omega

/-- A retune is the one R125 to R127 transcribe, of the bytes in the latches. -/
theorem Channel.retune_eq_ruleRetune (cps : BitVec 24) (ch : Channel) :
    ch.retune cps = ruleRetune cps ch.floLatch ch.fhiLatch ch := by
  simp only [ruleRetune, ← fnumOf_toNat, ← blockOf_toNat, ← keyCode_toNat, ← incOf_toNat, ofNat_toNat_self]
  rfl

/-! ## The frequency bytes -/

/-- R255: the low byte retunes exactly when the high byte landed before it. -/
theorem Channel.retuneIfLanded_lo (cps : BitVec 24) (lo : BitVec 8) (ch : Channel) :
    { ch with floLatch := lo, loLanded := true }.retuneIfLanded cps =
      if ch.hiLanded = true then ruleRetune cps lo ch.fhiLatch ch
      else { ch with floLatch := lo, loLanded := true } := by
  simp only [Channel.retuneIfLanded, Channel.bothLanded, Bool.true_and, Channel.retune_eq_ruleRetune]
  rfl

/-- R256: the high byte retunes exactly when the low byte landed before it. -/
theorem Channel.retuneIfLanded_hi (cps : BitVec 24) (fhi : BitVec 6) (ch : Channel) :
    { ch with fhiLatch := fhi, hiLanded := true }.retuneIfLanded cps =
      if ch.loLanded = true then ruleRetune cps ch.floLatch fhi ch
      else { ch with fhiLatch := fhi, hiLanded := true } := by
  simp only [Channel.retuneIfLanded, Channel.bothLanded, Bool.and_true, Channel.retune_eq_ruleRetune]
  rfl

/-- A channel command touches its own channel and the busy counter (R254 to R258). -/
theorem onlyChannel_updChan (s : State) (c : Nat) (f : Channel → Channel) :
    OnlyChannel s (s.updChan c f).setBusyWrite c fun ch => if c < s.cfg.nch then f ch else ch := by
  refine ⟨rfl, fun c' => (s.chan?_updChan c c' f).trans ?_⟩
  by_cases hpresent : c < s.cfg.nch
  · simp only [hpresent, and_true, if_true]
  · by_cases hc : c' = c <;> simp [hpresent, hc]

/-- Settles O17: each command is an update of its one channel, which retunes exactly when the other byte landed first. -/
theorem frequencyBytesRetuneOnlyTogether : Obligations.FrequencyBytesRetuneOnlyTogether := by
  refine ⟨fun s c lo => ⟨cmdFreqLo c lo s, rfl, rfl, ?_⟩,
    fun s c fhi block => ⟨cmdFreqHi c fhi block s, rfl, rfl, ?_⟩⟩
  · simp only [← Channel.retuneIfLanded_lo]
    exact onlyChannel_updChan s c.toNat _
  · simp only [← Channel.retuneIfLanded_hi]
    exact onlyChannel_updChan s c.toNat _

/-! ## The phase step -/

/-- The phase step writes the accumulator alone (R121). -/
theorem Operator.phaseStep_frame (d : Int) (o : Operator) :
    o.phaseStep d = { o with phase := (o.phaseStep d).phase } := rfl

/-- The accumulator wraps at `2^20` (R121). -/
theorem Operator.phaseStep_phase_toNat (d : Int) (o : Operator) :
    ((o.phaseStep d).phase.toNat : Int) = ((o.phase.toNat : Int) + (o.inc.toNat : Int) + d) % 1048576 := by
  rw [Operator.phaseStep_phase, BitVec.toNat_ofInt]
  exact Int.toNat_of_nonneg (Int.emod_nonneg _ (by decide))

/-- The shift of R178 is a division that rounds down. -/
theorem pmDelta_eq_ediv (inc : BitVec 20) (pm : Int) (pms : BitVec 3) :
    pmDelta inc pm pms = (inc.toNat : Int) * pm * (pms.toNat : Int) / 8192 :=
  Int.shiftRight_eq_div_pow _ 13

/-- Every value of the phase LFO's table (R175). -/
theorem pmTab_within (wave : BitVec 2) (i : BitVec 5) : Within 32 (pmTab wave i) := by
  unfold Within
  revert wave i
  decide +kernel

theorem State.pmOut_within (s : State) : Within 32 s.pmOut := pmTab_within _ _

/-- The delta takes back at most `32 * 7 / 8192` of the increment, rounded up, and so never more than all of it. -/
theorem neg_inc_le_pmDelta (inc : BitVec 20) {pm : Int} (pms : BitVec 3) (hpm : Within 32 pm) :
    -(inc.toNat : Int) ≤ pmDelta inc pm pms := by
  have hdepth : -8192 ≤ pm * (pms.toNat : Int) := by
    have hpms := pms.isLt
    have hlow : -32 * (pms.toNat : Int) ≤ pm * (pms.toNat : Int) :=
      Int.mul_le_mul_of_nonneg_right hpm.1 (Int.natCast_nonneg _)
    omega
  rw [pmDelta_eq_ediv, Int.le_ediv_iff_mul_le (by decide), mul_assoc, neg_mul, ← mul_neg]
  exact Int.mul_le_mul_of_nonneg_left hdepth (Int.natCast_nonneg _)

/-- Settles O43: the wrap is the accumulator's width, and the table's range bounds the delta from below. -/
theorem phaseStepNeverGoesBackward : Obligations.PhaseStepNeverGoesBackward := by
  refine ⟨fun d o => ⟨o.phaseStep_frame d, o.phaseStep_phase_toNat d⟩, fun s inc pms => ?_⟩
  have hdelta := neg_inc_le_pmDelta inc pms s.pmOut_within
  omega

/-! ## Increment 0 -/

/-- R129: a mantissa of 0 stays 0 through detune, multiple and block. -/
theorem incOf_fnum_zero (cps : BitVec 24) (block : BitVec 3) (mul : BitVec 4) (dt : BitVec 3) :
    incOf cps 0 block mul dt = 0 := by
  apply BitVec.eq_of_toNat_eq
  rw [incOf_toNat]
  simp [ruleInc]

/-- The phase LFO scales the increment, so it adds nothing to increment 0 (R178). -/
@[simp] theorem pmDelta_inc_zero (pm : Int) (pms : BitVec 3) : pmDelta 0 pm pms = 0 := by
  simp [pmDelta_eq_ediv]

/-- R129: the phase step of increment 0 changes nothing. -/
theorem Operator.phaseStep_of_inc_zero {o : Operator} (hinc : o.inc = 0) (pm : Int) (pms : BitVec 3) :
    o.phaseStep (pmDelta o.inc pm pms) = o := by
  have hphase : (o.phaseStep 0).phase = o.phase := by simp [hinc]
  rw [hinc, pmDelta_inc_zero, Operator.phaseStep_frame, hphase]

/-- The envelope step does not touch the accumulator (R144). -/
@[simp] theorem Operator.egStep_phase (kcode : BitVec 5) (o : Operator) :
    (o.egStep kcode).phase = o.phase := by rw [Operator.egStep_frame]

/-- Reading a channel after a SAMPLETICK (R236). -/
theorem chan?_sampleTick (s : State) (c : Nat) :
    (sampleTick s).chan? c = (s.chan? c).map (Channel.sampleTick s.cfg.ops s.amOut s.pmOut) :=
  List.getElem?_map

/-- Reading an operator after a SAMPLETICK: its phase step, then its envelope step (R236). -/
theorem oper?_sampleTick {s : State} {c : Nat} {ch : Channel} (hch : s.chan? c = some ch) (k : Nat) :
    (sampleTick s).oper? c k =
      (s.oper? c k).map fun o => (o.phaseStep (pmDelta o.inc s.pmOut ch.pms)).egStep ch.kcode := by
  simp [State.oper?_eq_bind, chan?_sampleTick, hch]

/-- Settles O44: frequency 0 has increment 0, whose phase step changes nothing and leaves the envelope step. -/
theorem zeroFrequencyHoldsThePhase : Obligations.ZeroFrequencyHoldsThePhase := by
  refine ⟨incOf_fnum_zero, fun s c k ch o hch ho hinc => ⟨?_, o.egStep_phase ch.kcode⟩⟩
  rw [oper?_sampleTick hch, ho, Option.map_some, Operator.phaseStep_of_inc_zero hinc]

end Sys2Proof.Machine
end

section
/-!
SUPPORT. The printed tables of the envelope and of the LFO against their definitions (R142, R143, R174, R175), and the
order of the attack curve, on which the envelope's proofs rest.
-/

/- The tables are evaluated one after another: evaluated together they take more memory than the sandbox allows. -/
set_option Elab.async false

namespace Sys2Proof.Machine

/-! ## `RATE_INC` -/

/-- R142: the four slowest rates do not move. -/
theorem rateInc_of_lt_four : ∀ i : Fin 64, i.val < 4 → rateInc i = 0 := by decide +kernel

/-- R142: four steps to the octave. -/
theorem rateInc_of_four_le :
    ∀ i : Fin 64, 4 ≤ i.val → rateInc i = (4 + i.val % 4) * 2 ^ (i.val / 4) := by decide +kernel

/-! ## `ATTACK_CURVE` -/

/-- R143: each entry is the one before it, less an eighth and one. -/
theorem attackCurve_succ :
    ∀ p : Fin 40, attackCurve p.succ = attackCurve p.castSucc - attackCurve p.castSucc / 8 - 1 ∧
      attackCurve p.succ < attackCurve p.castSucc := by decide +kernel

theorem attackCurve_last : attackCurve 40 = 0 := by decide +kernel

/-- The curve falls from each position to every later one (R143, R145). -/
theorem attackCurve_strictAnti : StrictAnti attackCurve :=
  Fin.strictAnti_iff_succ_lt.mpr fun p => (attackCurve_succ p).2

/-- The attack is at level 0 at the curve's last position, and nowhere before it (R151). -/
theorem attackCurve_eq_zero_iff {p : Fin 41} : attackCurve p = 0 ↔ p.val = 40 := by
  rw [← attackCurve_last, attackCurve_strictAnti.injective.eq_iff, Fin.ext_iff]
  rfl

/-! ## `AMTAB` and `PMTAB` -/

theorem amTab_triangle :
    ∀ i : BitVec 5, amTab 0 i = if i.toNat < 16 then 4 * i.toNat else 4 * (31 - i.toNat) := by decide +kernel

theorem amTab_sawUp : ∀ i : BitVec 5, amTab 1 i = 2 * i.toNat := by decide +kernel

theorem amTab_sawDown : ∀ i : BitVec 5, amTab 2 i = 62 - 2 * i.toNat := by decide +kernel

theorem amTab_square : ∀ i : BitVec 5, amTab 3 i = if i.toNat < 16 then 0 else 63 := by decide +kernel

theorem pmTab_triangle : ∀ i : BitVec 5, pmTab 0 i =
    if i.toNat < 8 then 4 * (i.toNat : Int)
    else if i.toNat < 24 then 4 * (16 - (i.toNat : Int)) else 4 * ((i.toNat : Int) - 32) := by decide +kernel

theorem pmTab_sawUp : ∀ i : BitVec 5, pmTab 1 i = 2 * (i.toNat : Int) - 32 := by decide +kernel

theorem pmTab_sawDown : ∀ i : BitVec 5, pmTab 2 i = 30 - 2 * (i.toNat : Int) := by decide +kernel

theorem pmTab_square : ∀ i : BitVec 5, pmTab 3 i = if i.toNat < 16 then 32 else -32 := by decide +kernel

/-- Settles O41: each table is evaluated once along its entries; the attack curve's law is that of neighbours. -/
theorem envelopeAndLfoTables : Obligations.EnvelopeAndLfoTables := by
  refine ⟨rateInc_of_lt_four, rateInc_of_four_le, attackCurve_zero, attackCurve_last, fun p q hq => ?_,
    fun i => ⟨amTab_triangle i, amTab_sawUp i, amTab_sawDown i, amTab_square i⟩,
    fun i => ⟨pmTab_triangle i, pmTab_sawUp i, pmTab_sawDown i, pmTab_square i⟩⟩
  have hp : p.val < 40 := by omega
  obtain rfl : q = Fin.succ ⟨p.val, hp⟩ := Fin.ext hq
  exact attackCurve_succ ⟨p.val, hp⟩

end Sys2Proof.Machine
end

section
/-!
SUPPORT. The envelope generator (R140 to R161): what one step writes, said once for each of its three rules, and from it
the step mode by mode, its monotonicity, the edges it takes; and the effect of key-on and key-off.
-/

namespace Sys2Proof.Machine

/-! ## The effective rate and the step accumulator -/

/-- The rate of R149 as the spec divides it. -/
theorem effectiveRate_eq_ruleRate (o : Operator) (rate : Nat) (kcode : BitVec 5) :
    effectiveRate rate kcode o.ks = ruleRate o rate kcode := by
  simp only [effectiveRate, ruleRate, Nat.shiftRight_eq_div_pow]

/-- Whole steps above the 16 fraction bits (R150). -/
theorem Operator.stepAcc_shiftRight (kcode : BitVec 5) (o : Operator) :
    o.stepAcc kcode >>> 16 = ruleSteps o o.modeRate kcode := by
  rw [Operator.stepAcc, effectiveRate_eq_ruleRate, Nat.shiftRight_eq_div_pow]
  rfl

/-- The fraction that stays (R150). -/
theorem Operator.ofNat_stepAcc (kcode : BitVec 5) (o : Operator) :
    BitVec.ofNat 16 (o.stepAcc kcode) = ruleFraction o o.modeRate kcode := by
  rw [Operator.stepAcc, effectiveRate_eq_ruleRate]
  rfl

/-- The operator before its mode's rule runs: the step accumulator has taken the rate and keeps the fraction (R150). -/
def Operator.accumulated (rate : Nat) (kcode : BitVec 5) (o : Operator) : Operator :=
  { o with egAcc := ruleFraction o rate kcode }

/-! ## Which rule a mode runs (R144) -/

theorem Operator.egStep_of_off {o : Operator} (kcode : BitVec 5) (hmode : o.egMode = .off) :
    o.egStep kcode = o := by
  simp only [Operator.egStep, hmode]

theorem Operator.egStep_of_sustainHold {o : Operator} (kcode : BitVec 5) (hmode : o.egMode = .sustainHold) :
    o.egStep kcode = o := by
  simp only [Operator.egStep, hmode]

theorem Operator.egStep_of_attack {o : Operator} (kcode : BitVec 5) (hmode : o.egMode = .attack) :
    o.egStep kcode = (o.accumulated o.ar.toNat kcode).attackStep (ruleSteps o o.ar.toNat kcode) := by
  have hrate : o.modeRate = o.ar.toNat := by simp only [Operator.modeRate, hmode]
  simp only [Operator.egStep, o.stepAcc_shiftRight, o.ofNat_stepAcc, hrate, hmode, Operator.accumulated]

theorem Operator.egStep_of_decay {o : Operator} (kcode : BitVec 5) (hmode : o.egMode = .decay) :
    o.egStep kcode = (o.accumulated o.dr.toNat kcode).decayStep (ruleSteps o o.dr.toNat kcode) := by
  have hrate : o.modeRate = o.dr.toNat := by simp only [Operator.modeRate, hmode]
  simp only [Operator.egStep, o.stepAcc_shiftRight, o.ofNat_stepAcc, hrate, hmode, Operator.accumulated]

/-- Sustain and Release run the same rule, each on its own rate. -/
theorem Operator.egStep_of_sustainRelease {o : Operator} {rate : Nat} (kcode : BitVec 5)
    (hmode : (o.egMode = .sustain ∧ rate = o.sr.toNat) ∨ (o.egMode = .release ∧ rate = o.rr.toNat)) :
    o.egStep kcode = (o.accumulated rate kcode).sustainReleaseStep (ruleSteps o rate kcode) := by
  have hrate : o.modeRate = rate := by
    rcases hmode with ⟨hmode, rfl⟩ | ⟨hmode, rfl⟩ <;> simp only [Operator.modeRate, hmode]
  rcases hmode with ⟨hmode, -⟩ | ⟨hmode, -⟩ <;>
    simp only [Operator.egStep, o.stepAcc_shiftRight, o.ofNat_stepAcc, hrate, hmode, Operator.accumulated]

/-! ## What each rule writes -/

theorem levelUp_toNat (level : BitVec 10) (steps : Nat) :
    (levelUp level steps).toNat = min (level.toNat + steps) 1023 := by
  rw [levelUp, BitVec.toNat_ofNat]
  omega

theorem le_levelUp (level : BitVec 10) (steps : Nat) : level.toNat ≤ (levelUp level steps).toNat := by
  rw [levelUp_toNat]
  omega

/-- The level stands at the ceiling exactly when the steps carry it there (R154). -/
theorem levelUp_eq_ceiling_iff {level : BitVec 10} {steps : Nat} :
    levelUp level steps = 1023 ↔ 1023 ≤ level.toNat + steps := by
  rw [← BitVec.toNat_inj, levelUp_toNat]
  simp

/-- Below the ceiling nothing is clamped. -/
theorem levelUp_of_lt {level : BitVec 10} {steps : Nat} (h : level.toNat + steps < 1023) :
    levelUp level steps = BitVec.ofNat 10 (level.toNat + steps) := by
  rw [levelUp, min_eq_left h.le]

/-- The attack is on its way or at the curve's end. -/
theorem Operator.attackPos_lt_or_eq (steps : Nat) (o : Operator) :
    (o.attackPos steps).val < 40 ∨ (o.attackPos steps).val = 40 := by omega

/-- R151 before the curve's end. -/
theorem Operator.attackStep_of_lt {o : Operator} {steps : Nat} (h : (o.attackPos steps).val < 40) :
    o.attackStep steps =
      { o with
        egAtkPos := BitVec.ofNat 6 (o.attackPos steps).val
        egLevel := BitVec.ofNat 10 (attackCurve (o.attackPos steps)) } :=
  if_neg fun hzero => by rw [attackCurve_eq_zero_iff] at hzero; omega

/-- R151 at the curve's end. -/
theorem Operator.attackStep_of_end {o : Operator} {steps : Nat} (h : (o.attackPos steps).val = 40) :
    o.attackStep steps = { o with egAcc := 0, egAtkPos := 40, egLevel := 0, egMode := .decay } := by
  have hzero := attackCurve_eq_zero_iff.mpr h
  simp only [Operator.attackStep, hzero, h, if_true]
  rfl

/-- R152 below the sustain threshold. -/
theorem Operator.decayStep_of_lt {o : Operator} {steps : Nat}
    (h : (levelUp o.egLevel steps).toNat < o.sl.toNat * 64) :
    o.decayStep steps = { o with egLevel := levelUp o.egLevel steps } :=
  if_neg fun hreached => by rw [Nat.shiftLeft_eq] at hreached; omega

/-- R153: at the threshold the decay ends. -/
theorem Operator.decayStep_of_threshold {o : Operator} {steps : Nat}
    (h : o.sl.toNat * 64 ≤ (levelUp o.egLevel steps).toNat) :
    o.decayStep steps =
      { o with
        egAcc := 0, egLevel := levelUp o.egLevel steps
        egMode := if o.egtHold then .sustainHold else .sustain } :=
  if_pos (by rw [Nat.shiftLeft_eq]; exact h)

/-- R155 below the ceiling. -/
theorem Operator.sustainReleaseStep_of_lt {o : Operator} {steps : Nat} (h : o.egLevel.toNat + steps < 1023) :
    o.sustainReleaseStep steps = { o with egLevel := BitVec.ofNat 10 (o.egLevel.toNat + steps) } := by
  have hbelow : levelUp o.egLevel steps ≠ 1023 := by rw [ne_eq, levelUp_eq_ceiling_iff]; omega
  rw [← levelUp_of_lt h]
  exact if_neg hbelow

/-- R154: at the ceiling the operator is off and disabled. -/
theorem Operator.sustainReleaseStep_of_ceiling {o : Operator} {steps : Nat}
    (h : 1023 ≤ o.egLevel.toNat + steps) :
    o.sustainReleaseStep steps = { o with egAcc := 0, egLevel := 1023, egMode := .off, enable := false } := by
  have hceiling := levelUp_eq_ceiling_iff.mpr h
  simp only [Operator.sustainReleaseStep, hceiling, if_true]

/-- Settles O45: each mode runs its rule (`egStep_of_…`), and each rule is read on both sides of its exit. -/
theorem envelopeStepByMode : Obligations.EnvelopeStepByMode := by
  intro kcode o
  refine ⟨?_, fun hmode => ⟨fun hpos => ?_, fun hpos => ?_⟩, fun hmode => ⟨fun hlevel => ?_, fun hlevel => ?_⟩,
    fun rate hmode => ⟨fun hlevel => ?_, fun hlevel => ?_⟩⟩
  · rintro (hmode | hmode)
    · exact Operator.egStep_of_off kcode hmode
    · exact Operator.egStep_of_sustainHold kcode hmode
  · exact (Operator.egStep_of_attack kcode hmode).trans (Operator.attackStep_of_lt hpos)
  · exact (Operator.egStep_of_attack kcode hmode).trans (Operator.attackStep_of_end hpos)
  · rw [← levelUp_toNat] at hlevel
    exact (Operator.egStep_of_decay kcode hmode).trans (Operator.decayStep_of_lt hlevel)
  · rw [← levelUp_toNat] at hlevel
    exact (Operator.egStep_of_decay kcode hmode).trans (Operator.decayStep_of_threshold hlevel)
  · exact (Operator.egStep_of_sustainRelease kcode hmode).trans (Operator.sustainReleaseStep_of_lt hlevel)
  · exact (Operator.egStep_of_sustainRelease kcode hmode).trans (Operator.sustainReleaseStep_of_ceiling hlevel)

/-! ## Monotonicity -/

/-- The attack's position moves forward along the curve. -/
theorem Operator.attackStep_egAtkPos (steps : Nat) (o : Operator) :
    (o.attackStep steps).egAtkPos.toNat = (o.attackPos steps).val := by
  rcases o.attackPos_lt_or_eq steps with hpos | hpos
  · rw [Operator.attackStep_of_lt hpos, BitVec.toNat_ofNat]
    omega
  · rw [Operator.attackStep_of_end hpos, hpos]
    rfl

/-- The attack's level is the curve's (R151). -/
theorem Operator.attackStep_egLevel (steps : Nat) (o : Operator) :
    (o.attackStep steps).egLevel.toNat = attackCurve (o.attackPos steps) := by
  rcases o.attackPos_lt_or_eq steps with hpos | hpos
  · have hcurve := attackCurve_le (o.attackPos steps)
    rw [Operator.attackStep_of_lt hpos, BitVec.toNat_ofNat]
    omega
  · rw [Operator.attackStep_of_end hpos, attackCurve_eq_zero_iff.mpr hpos]
    rfl

@[simp] theorem Operator.decayStep_egLevel (steps : Nat) (o : Operator) :
    (o.decayStep steps).egLevel = levelUp o.egLevel steps := by
  unfold Operator.decayStep
  dsimp only
  split <;> rfl

@[simp] theorem Operator.sustainReleaseStep_egLevel (steps : Nat) (o : Operator) :
    (o.sustainReleaseStep steps).egLevel = levelUp o.egLevel steps := by
  unfold Operator.sustainReleaseStep
  dsimp only
  split <;> rfl

/-- R145 in Attack: a later position of a falling curve. -/
theorem Operator.egStep_attack_monotone {o : Operator} (kcode : BitVec 5) (hok : o.EnvelopeOk)
    (hmode : o.egMode = .attack) :
    (o.egStep kcode).egLevel.toNat ≤ o.egLevel.toNat ∧
      o.egAtkPos.toNat ≤ (o.egStep kcode).egAtkPos.toNat := by
  obtain ⟨-, -, p, hp, hlevel⟩ := hok
  rw [Operator.egStep_of_attack kcode hmode, Operator.attackStep_egLevel, Operator.attackStep_egAtkPos,
    hlevel hmode, hp]
  have hforward : p ≤ (o.accumulated o.ar.toNat kcode).attackPos (ruleSteps o o.ar.toNat kcode) := by
    have hpos : p.val ≤ min (o.egAtkPos.toNat + ruleSteps o o.ar.toNat kcode) 40 := by omega
    exact hpos
  exact ⟨attackCurve_strictAnti.antitone hforward, hforward⟩

/-- R145 in the other modes: the level stays, or takes non-negative steps. -/
theorem Operator.egStep_level_monotone {o : Operator} (kcode : BitVec 5) (hmode : o.egMode ≠ .attack) :
    o.egLevel.toNat ≤ (o.egStep kcode).egLevel.toNat := by
  cases h : o.egMode with
  | off => rw [Operator.egStep_of_off kcode h]
  | attack => exact absurd h hmode
  | decay =>
    rw [Operator.egStep_of_decay kcode h, Operator.decayStep_egLevel]
    exact le_levelUp _ _
  | sustain =>
    rw [Operator.egStep_of_sustainRelease kcode (.inl ⟨h, rfl⟩), Operator.sustainReleaseStep_egLevel]
    exact le_levelUp _ _
  | sustainHold => rw [Operator.egStep_of_sustainHold kcode h]
  | release =>
    rw [Operator.egStep_of_sustainRelease kcode (.inr ⟨h, rfl⟩), Operator.sustainReleaseStep_egLevel]
    exact le_levelUp _ _

/-- Settles O46: the step keeps R45 (`EnvelopeOk.egStep`), which makes the level in Attack the curve's. -/
theorem envelopeIsMonotonic : Obligations.EnvelopeIsMonotonic := fun kcode _ hok =>
  ⟨hok.egStep kcode, Operator.egStep_attack_monotone kcode hok, Operator.egStep_level_monotone kcode⟩

/-! ## The edges of a SAMPLETICK -/

/-- What one envelope step does to the mode and the enable flag: leave both, take an edge of R141 that leaves the
enable flag, or switch the operator off at the ceiling. -/
inductive Operator.SampleMove (o o' : Operator) : Prop where
  | stay (mode : o'.egMode = o.egMode) (enable : o'.enable = o.enable)
  | edge (edge : sampleEdge o o'.egMode) (enable : o'.enable = o.enable)
  | off (moving : o.egMode = .sustain ∨ o.egMode = .release) (mode : o'.egMode = .off)
    (level : o'.egLevel = 1023) (enable : o'.enable = false)

/-- Attack stays, or ends in Decay (R151). -/
theorem Operator.sampleMove_attackStep (steps : Nat) {o : Operator} (hmode : o.egMode = .attack) :
    o.SampleMove (o.attackStep steps) := by
  rcases o.attackPos_lt_or_eq steps with hpos | hpos
  · rw [Operator.attackStep_of_lt hpos]
    exact .stay rfl rfl
  · rw [Operator.attackStep_of_end hpos]
    exact .edge (by simp only [sampleEdge, hmode]) rfl

/-- Decay stays, or ends in the sustain mode that `EGT_HOLD` selects (R153). -/
theorem Operator.sampleMove_decayStep (steps : Nat) {o : Operator} (hmode : o.egMode = .decay) :
    o.SampleMove (o.decayStep steps) := by
  rcases lt_or_ge (levelUp o.egLevel steps).toNat (o.sl.toNat * 64) with hlevel | hlevel
  · rw [Operator.decayStep_of_lt hlevel]
    exact .stay rfl rfl
  · rw [Operator.decayStep_of_threshold hlevel]
    refine .edge ?_ rfl
    cases hhold : o.egtHold <;> simp [sampleEdge, hmode, hhold]

/-- Sustain and Release stay, or end in Off (R154). -/
theorem Operator.sampleMove_sustainReleaseStep (steps : Nat) {o : Operator}
    (hmode : o.egMode = .sustain ∨ o.egMode = .release) : o.SampleMove (o.sustainReleaseStep steps) := by
  rcases lt_or_ge (o.egLevel.toNat + steps) 1023 with hlevel | hlevel
  · rw [Operator.sustainReleaseStep_of_lt hlevel]
    exact .stay rfl rfl
  · rw [Operator.sustainReleaseStep_of_ceiling hlevel]
    exact .off hmode rfl rfl rfl

/-- A move does not read the step accumulator. -/
theorem Operator.SampleMove.of_accumulated {rate : Nat} {kcode : BitVec 5} {o o' : Operator}
    (move : (o.accumulated rate kcode).SampleMove o') : o.SampleMove o' := by
  cases move with
  | stay mode enable => exact .stay mode enable
  | edge edge enable => exact .edge edge enable
  | off moving mode level enable => exact .off moving mode level enable

/-- A move does not read the phase. -/
theorem Operator.SampleMove.of_phaseStep {d : Int} {o o' : Operator} (move : (o.phaseStep d).SampleMove o') :
    o.SampleMove o' := by
  cases move with
  | stay mode enable => exact .stay mode enable
  | edge edge enable => exact .edge edge enable
  | off moving mode level enable => exact .off moving mode level enable

/-- R141: every envelope step is such a move. -/
theorem Operator.sampleMove_egStep (kcode : BitVec 5) (o : Operator) : o.SampleMove (o.egStep kcode) := by
  cases hmode : o.egMode with
  | off => rw [Operator.egStep_of_off kcode hmode]; exact .stay rfl rfl
  | attack =>
    rw [Operator.egStep_of_attack kcode hmode]
    exact (Operator.sampleMove_attackStep (o := o.accumulated _ _) _ hmode).of_accumulated
  | decay =>
    rw [Operator.egStep_of_decay kcode hmode]
    exact (Operator.sampleMove_decayStep (o := o.accumulated _ _) _ hmode).of_accumulated
  | sustain =>
    rw [Operator.egStep_of_sustainRelease kcode (.inl ⟨hmode, rfl⟩)]
    exact (Operator.sampleMove_sustainReleaseStep (o := o.accumulated _ _) _ (.inl hmode)).of_accumulated
  | sustainHold => rw [Operator.egStep_of_sustainHold kcode hmode]; exact .stay rfl rfl
  | release =>
    rw [Operator.egStep_of_sustainRelease kcode (.inr ⟨hmode, rfl⟩)]
    exact (Operator.sampleMove_sustainReleaseStep (o := o.accumulated _ _) _ (.inr hmode)).of_accumulated

/-- A SAMPLETICK moves every operator by its phase step, which the envelope does not see, and its envelope step. -/
theorem sampleMove_sampleTick {s : State} {c k : Nat} {o o' : Operator} (ho : s.oper? c k = some o)
    (ho' : (sampleTick s).oper? c k = some o') : o.SampleMove o' := by
  cases hch : s.chan? c with
  | none => rw [State.oper?_eq_bind, hch] at ho; cases ho
  | some ch =>
    rw [oper?_sampleTick hch, ho] at ho'
    cases ho'
    exact (Operator.sampleMove_egStep ch.kcode _).of_phaseStep

/-! ## Key-on and key-off -/

/-- The modes that key-off acts on (R158). -/
theorem EgMode.keyed_iff (m : EgMode) :
    m.keyed = true ↔ m = .attack ∨ m = .decay ∨ m = .sustain ∨ m = .sustainHold := by
  cases m <;> decide

/-- R158 in the words of the rule. -/
theorem Operator.keyOff_eq (o : Operator) :
    o.keyOff =
      if o.egtIgnk = false ∧ (o.egMode = .attack ∨ o.egMode = .decay ∨ o.egMode = .sustain ∨
        o.egMode = .sustainHold) then { o with egMode := .release, egAcc := 0 } else o := by
  simp only [Operator.keyOff, Bool.and_eq_true, Bool.not_eq_true', EgMode.keyed_iff]

theorem Channel.keyOff_eq (ch : Channel) :
    ch.keyOff =
      { ch with
        keyLatch := false
        ops := ch.ops.map fun o =>
          if o.egtIgnk = false ∧ (o.egMode = .attack ∨ o.egMode = .decay ∨ o.egMode = .sustain ∨
            o.egMode = .sustainHold) then { o with egMode := .release, egAcc := 0 } else o } := by
  simp only [Channel.keyOff, funext Operator.keyOff_eq]

/-- Settles O15: key-on is an update of its one channel. -/
theorem keyOnRestartsTheChannel : Obligations.KeyOnRestartsTheChannel := fun s c =>
  ⟨cmdKey c true s, rfl, rfl, onlyChannel_updChan s c.toNat Channel.keyOn⟩

/-- Settles O16: key-off is an update of its one channel. -/
theorem keyOffReleasesKeyedOperators : Obligations.KeyOffReleasesKeyedOperators := by
  refine fun s c => ⟨cmdKey c false s, rfl, rfl, ?_⟩
  simp only [← Channel.keyOff_eq]
  exact onlyChannel_updChan s c.toNat Channel.keyOff

/-- What key-off does to the mode and the enable flag: nothing, or Release of a keyed operator that heeds it. -/
theorem Operator.keyOff_move (o : Operator) :
    o.keyOff = o ∨
      (o.keyOff.egMode = .release ∧ o.egtIgnk = false ∧ o.egMode ≠ .off ∧ o.keyOff.enable = o.enable) := by
  rw [Operator.keyOff_eq]
  split
  next hreleased =>
    obtain ⟨hheeds, hkeyed⟩ := hreleased
    refine .inr ⟨rfl, hheeds, ?_, rfl⟩
    intro hoff
    simp [hoff] at hkeyed
  next => exact .inl rfl

/-- An operator after KEY is what the command made of it, in the command's channel, or what it was (R254). -/
theorem oper?_cmdKey (s : State) (x : BitVec 3) (on : Bool) (c k : Nat) :
    (cmdKey x on s).oper? c k =
      if c = x.toNat ∧ x.toNat < s.cfg.nch then
        (s.oper? c k).map (if on then Operator.keyOn else Operator.keyOff)
      else s.oper? c k := by
  have hread : (cmdKey x on s).chan? c = _ :=
    s.chan?_updChan x.toNat c fun ch => if on then ch.keyOn else ch.keyOff
  rw [State.oper?_eq_bind, hread]
  split
  next hc =>
    obtain ⟨rfl, -⟩ := hc
    cases hch : s.chan? x.toNat <;> cases on <;> simp [State.oper?_eq_bind, hch]
  next => rfl

/-! ## The other commands -/

/-- The modes and the enable flags of a channel's operators. -/
def Channel.gates (ch : Channel) : List (EgMode × Bool) := ch.ops.map fun o => (o.egMode, o.enable)

/-- No edit but key-on and key-off writes a mode or an enable flag (R159). -/
theorem ChannelEdit.gates_eq {p : Config.Params} {cps : BitVec 24} {ch ch' : Channel} {i : Instr}
    (edit : ChannelEdit p cps ch i ch') (hkey : ∀ x on, i ≠ .key x on) : ch'.gates = ch.gates := by
  have retuned (ch : Channel) : (ch.retune cps).gates = ch.gates := by
    simp [Channel.gates]
  cases edit with
  | keyOn | keyOff => exact absurd rfl (hkey _ _)
  | freqLo =>
    exact Channel.retuneIfLanded_induction (P := fun x => x.gates = ch.gates) (fun _ => rfl) (retuned _)
  | freqHi =>
    exact Channel.retuneIfLanded_induction (P := fun x => x.gates = ch.gates) (fun _ => rfl) (retuned _)
  | mulDt => exact ch.map_ops_updOper _ fun _ => rfl
  | registers writes => exact ch.map_ops_updOper _ fun o => by rw [writes o]
  | none | algFb | panLfo => rfl

/-- The mode and the enable flag of an operator, read from those of all channels. -/
theorem State.gates_getElem? (s : State) (c k : Nat) :
    ((s.ch.map Channel.gates)[c]?).bind (fun l => l[k]?) =
      (s.oper? c k).map fun o => (o.egMode, o.enable) := by
  rw [List.getElem?_map, State.oper?_eq_bind, State.chan?]
  cases s.ch[c]? with
  | none => rfl
  | some ch => exact List.getElem?_map

/-- No command but KEY writes a mode or an enable flag (R159). -/
theorem applyCommand_keeps_gate {i : Instr} {s : State} {c k : Nat} {o o' : Operator}
    (hkey : ∀ x on, i ≠ .key x on) (ho : s.oper? c k = some o) (ho' : (applyCommand i s).oper? c k = some o') :
    o'.egMode = o.egMode ∧ o'.enable = o.enable := by
  have hgates : (applyCommand i s).ch.map Channel.gates = s.ch.map Channel.gates :=
    map_eq_of_forall₂ (channelEdits_applyCommand i s) fun _ _ edit => edit.gates_eq hkey
  have hgate := (applyCommand i s).gates_getElem? c k
  rw [hgates, s.gates_getElem?, ho, ho'] at hgate
  simpa [eq_comm] using hgate

/-- KEY moves the operators of its own channel alone (R156, R158, R254). -/
theorem cmdKey_move {s : State} {x : BitVec 3} {on : Bool} {c k : Nat} {o o' : Operator}
    (ho : s.oper? c k = some o) (ho' : (cmdKey x on s).oper? c k = some o') :
    o' = o ∨ (c = x.toNat ∧ o' = if on then o.keyOn else o.keyOff) := by
  rw [oper?_cmdKey, ho] at ho'
  split at ho'
  next hc =>
    cases on <;> cases ho' <;> exact .inr ⟨hc.1, rfl⟩
  next => cases ho'; exact .inl rfl

/-- Settles O22: KEY by its two updates, every other command by its frame, a SAMPLETICK by the moves of `egStep`. -/
theorem modeTransitionsAreTheTable : Obligations.ModeTransitionsAreTheTable := by
  constructor
  · intro i s t c k o o' queued hexec ho ho'
    rw [exec_queueCommand queued] at hexec
    cases hexec
    by_cases hkey : ∃ x on, i = .key x on
    · obtain ⟨x, on, rfl⟩ := hkey
      obtain rfl | ⟨rfl, rfl⟩ := cmdKey_move ho ho'
      · exact .inl ⟨rfl, rfl⟩
      · cases on with
        | true => exact .inr (.inl ⟨x, rfl, rfl, rfl, rfl⟩)
        | false =>
          obtain hsame | ⟨hmode, hheeds, hoff, henable⟩ := o.keyOff_move
          · exact .inl ⟨congrArg Operator.egMode hsame, congrArg Operator.enable hsame⟩
          · exact .inr (.inr ⟨x, rfl, rfl, hmode, hheeds, hoff, henable⟩)
    · exact .inl (applyCommand_keeps_gate (fun x on h => hkey ⟨x, on, h⟩) ho ho')
  · intro s c k o o' ho ho'
    cases sampleMove_sampleTick ho ho' with
    | stay mode enable => exact ⟨.inl mode, fun hon hoff => by simp [enable, hon] at hoff, enable.trans⟩
    | edge edge enable => exact ⟨.inr edge, fun hon hoff => by simp [enable, hon] at hoff, enable.trans⟩
    | off moving mode level enable =>
      refine ⟨.inr ?_, fun _ _ => ⟨moving, mode, level⟩, fun _ => enable⟩
      rcases moving with hmode | hmode <;> simp only [sampleEdge, hmode, mode]

end Sys2Proof.Machine
end

section
/-!
SUPPORT. The LFO modulator (R170 to R179): its advance and its index on numbers, the counters over chip clocks and over
samples with nothing queued, and what a channel makes of the two outputs.
-/

namespace Sys2Proof.Machine

/-! ## One counter -/

/-- R173 on numbers: the counter's width is the modulus. -/
theorem lfoAdvance_toNat (cnt : BitVec 22) (freq : BitVec 8) :
    (lfoAdvance cnt freq).toNat = (cnt.toNat + 16 * freq.toNat) % 4194304 := by
  rw [lfoAdvance, BitVec.toNat_ofNat, Nat.shiftLeft_eq, Nat.mul_comm freq.toNat]

/-- R173 over `n` samples with the selector held. -/
theorem lfoAdvance_iterate_toNat (freq : BitVec 8) (n : Nat) (cnt : BitVec 22) :
    ((lfoAdvance · freq)^[n] cnt).toNat = (cnt.toNat + n * (16 * freq.toNat)) % 4194304 := by
  induction n generalizing cnt with
  | zero => have hlt := cnt.isLt; rw [Function.iterate_zero_apply]; omega
  | succ n ih => rw [Function.iterate_succ_apply, ih, lfoAdvance_toNat, Nat.mod_add_mod, Nat.succ_mul n]; omega

/-- R171 on numbers: the index counts whole units of `2^17`. -/
theorem lfoIndex_eq_ofNat (cnt : BitVec 22) : lfoIndex cnt = BitVec.ofNat 5 (cnt.toNat / 131072) := by
  apply BitVec.eq_of_toNat_eq
  rw [lfoIndex, BitVec.extractLsb'_toNat, BitVec.toNat_ofNat, Nat.shiftRight_eq_div_pow]

/-! ## The counters over chip clocks and samples -/

/-- No chip clock writes an LFO counter, whatever it accepts (R173). -/
@[simp] theorem subtick_lfoAmCnt (s : State) : (subtick s).lfoAmCnt = s.lfoAmCnt := by rw [subtick_frame]
@[simp] theorem subtick_lfoPmCnt (s : State) : (subtick s).lfoPmCnt = s.lfoPmCnt := by rw [subtick_frame]

/-- The chip clocks of a sample leave both counters to its SAMPLETICK (R231). -/
theorem clockDivider_lfoCounters (s : State) :
    (clockDivider s).lfoAmCnt = s.lfoAmCnt ∧ (clockDivider s).lfoPmCnt = s.lfoPmCnt :=
  subticks_induction (P := fun x => x.lfoAmCnt = s.lfoAmCnt ∧ x.lfoPmCnt = s.lfoPmCnt)
    (fun _ h => by simpa using h) _ _ ⟨rfl, rfl⟩

/-- With nothing queued the chip clocks of a sample write no register (R217, R231). -/
theorem clockDivider_sameRegisterFile {s : State} (hqueue : s.queue = []) :
    SameRegisterFile s (clockDivider s) :=
  subticks_induction (fun _ h => h.subtick) _ _ ⟨hqueue, rfl, rfl, rfl, rfl, rfl, rfl, rfl⟩

/-- With nothing queued a sample advances each counter once, by the selector it leaves as it was (R173). -/
theorem oneSample_lfo {s : State} (hqueue : s.queue = []) :
    (oneSample s).queue = [] ∧
      (oneSample s).lfoAmFreq = s.lfoAmFreq ∧ (oneSample s).lfoPmFreq = s.lfoPmFreq ∧
      (oneSample s).lfoAmCnt = lfoAdvance s.lfoAmCnt s.lfoAmFreq ∧
      (oneSample s).lfoPmCnt = lfoAdvance s.lfoPmCnt s.lfoPmFreq := by
  obtain ⟨ham, hpm⟩ := clockDivider_lfoCounters s
  obtain ⟨hempty, -, -, -, hamFreq, hpmFreq, -, -⟩ := clockDivider_sameRegisterFile hqueue
  simp [oneSample, hempty, hamFreq, hpmFreq, ham, hpm]

/-- With nothing queued `n` samples advance each counter `n` times by the same selector. -/
theorem generateSamples_lfoCounters (n : Nat) {s : State} (hqueue : s.queue = []) :
    (generateSamples n s).1.lfoAmCnt = (lfoAdvance · s.lfoAmFreq)^[n] s.lfoAmCnt ∧
      (generateSamples n s).1.lfoPmCnt = (lfoAdvance · s.lfoPmFreq)^[n] s.lfoPmCnt := by
  induction n generalizing s with
  | zero => exact ⟨rfl, rfl⟩
  | succ n ih =>
    obtain ⟨hempty, hamFreq, hpmFreq, ham, hpm⟩ := oneSample_lfo hqueue
    have later := ih hempty
    rwa [hamFreq, hpmFreq, ham, hpm] at later

/-- Settles O53: one SAMPLETICK by the advance, one chip clock by its frame, `n` samples by iterating the advance. -/
theorem lfoCountersRunFreely : Obligations.LfoCountersRunFreely := by
  refine ⟨fun s => ⟨lfoAdvance_toNat _ _, lfoAdvance_toNat _ _⟩,
    fun s => ⟨subtick_lfoAmCnt s, subtick_lfoPmCnt s⟩, fun s n ready hqueue => ?_, fun s => ?_⟩
  · obtain ⟨ham, hpm⟩ := generateSamples_lfoCounters n hqueue
    refine ⟨_, execGenerate_of_ready n ready, ?_, ?_⟩
    · rw [State.withReply_lfoAmCnt, ham, lfoAdvance_iterate_toNat]
    · rw [State.withReply_lfoPmCnt, hpm, lfoAdvance_iterate_toNat]
  · simp only [State.amOut, State.pmOut, lfoIndex_eq_ofNat, and_self]

/-! ## What a channel makes of the outputs -/

/-- Sensitivity 0 switches the amplitude LFO off (R177). -/
@[simp] theorem amContrib_zero (am : Nat) : amContrib 0 am = 0 := rfl

/-- The shift of R177 is a multiplication. -/
theorem amContrib_of_ne_zero {ams : BitVec 2} (h : ams ≠ 0) (am : Nat) :
    amContrib ams am = am * 2 ^ (ams.toNat + 1) := by
  rw [amContrib, if_neg h, Nat.shiftLeft_eq]

/-- The highest entry is that of the square wave (R174). -/
theorem amTab_le (wave : BitVec 2) (i : BitVec 5) : amTab wave i ≤ 63 := by
  have hi := i.isLt
  have hwave : wave = 0 ∨ wave = 1 ∨ wave = 2 ∨ wave = 3 := by decide +revert
  obtain rfl | rfl | rfl | rfl := hwave
  · rw [amTab_triangle]; split <;> omega
  · rw [amTab_sawUp]; omega
  · rw [amTab_sawDown]; omega
  · rw [amTab_square]; split <;> omega

theorem State.amOut_le (s : State) : s.amOut ≤ 63 := amTab_le _ _

/-- The amplitude part is at most 63 at its depth's scale (R177). -/
theorem amContrib_amOut_le {ams : BitVec 2} (h : ams ≠ 0) (s : State) :
    amContrib ams s.amOut ≤ 63 * 2 ^ (ams.toNat + 1) := by
  rw [amContrib_of_ne_zero h]
  exact Nat.mul_le_mul_right _ s.amOut_le

/-- Settles O42: both shifts are scalings, the output is at most 63, and the worked values are evaluated. -/
theorem lfoDepthsScaleTheOutputs : Obligations.LfoDepthsScaleTheOutputs :=
  ⟨amContrib_zero, fun _ am h => amContrib_of_ne_zero h am,
    fun s => ⟨amContrib_amOut_le (by decide) s, amContrib_amOut_le (by decide) s, amContrib_amOut_le (by decide) s⟩,
    pmDelta_eq_ediv, by decide, by decide, by decide⟩

end Sys2Proof.Machine
end

section
/-!
SUPPORT. The operator mixing network (R185 to R197): what an operator puts out, the feedback term, the routing of one
sample, and the channel sample with its history. The outputs of a channel are said here once, by operator: each is that
of a phase index which the outputs of the whole sample determine.
-/

namespace Sys2Proof.Machine

/-! ## The level handed to the operator -/

/-- Mode 0 is no transform (R160). -/
@[simp] theorem ssgXform_zero (level : BitVec 10) : Config.ssgXform 0 level = level := if_pos rfl

theorem Operator.egOut_of_transformed {o : Operator}
    (hmode : o.egMode = .decay ∨ o.egMode = .sustain ∨ o.egMode = .sustainHold) :
    o.egOut = Config.ssgXform o.ssg o.egLevel := by
  obtain h | h | h := hmode <;> simp only [Operator.egOut, h]

theorem Operator.egOut_of_untransformed {o : Operator}
    (hmode : o.egMode = .off ∨ o.egMode = .attack ∨ o.egMode = .release) : o.egOut = o.egLevel := by
  obtain h | h | h := hmode <;> simp only [Operator.egOut, h]

theorem Operator.egOut_of_ssg_zero {o : Operator} (hssg : o.ssg = 0) : o.egOut = o.egLevel := by
  cases hmode : o.egMode with
  | off | attack | release => exact Operator.egOut_of_untransformed (by simp [hmode])
  | decay | sustain | sustainHold =>
    rw [Operator.egOut_of_transformed (by simp [hmode]), hssg, ssgXform_zero]

/-! ## The transform never feeds back -/

/-- The operator with another transform mode. -/
def Operator.withSsg (m : BitVec 4) (o : Operator) : Operator := { o with ssg := m }

theorem Operator.attackStep_withSsg (steps : Nat) (o : Operator) (m : BitVec 4) :
    (o.withSsg m).attackStep steps = (o.attackStep steps).withSsg m := by
  obtain hpos | hpos := o.attackPos_lt_or_eq steps
  · rw [Operator.attackStep_of_lt hpos]
    exact Operator.attackStep_of_lt hpos
  · rw [Operator.attackStep_of_end hpos]
    exact Operator.attackStep_of_end hpos

theorem Operator.decayStep_withSsg (steps : Nat) (o : Operator) (m : BitVec 4) :
    (o.withSsg m).decayStep steps = (o.decayStep steps).withSsg m := by
  obtain hlt | hthreshold := Nat.lt_or_ge (levelUp o.egLevel steps).toNat (o.sl.toNat * 64)
  · rw [Operator.decayStep_of_lt hlt]
    exact Operator.decayStep_of_lt hlt
  · rw [Operator.decayStep_of_threshold hthreshold]
    exact Operator.decayStep_of_threshold hthreshold

theorem Operator.sustainReleaseStep_withSsg (steps : Nat) (o : Operator) (m : BitVec 4) :
    (o.withSsg m).sustainReleaseStep steps = (o.sustainReleaseStep steps).withSsg m := by
  obtain hlt | hceiling := Nat.lt_or_ge (o.egLevel.toNat + steps) 1023
  · rw [Operator.sustainReleaseStep_of_lt hlt]
    exact Operator.sustainReleaseStep_of_lt hlt
  · rw [Operator.sustainReleaseStep_of_ceiling hceiling]
    exact Operator.sustainReleaseStep_of_ceiling hceiling

/-- R161: the envelope does not read the transform's mode. -/
theorem Operator.egStep_withSsg (kcode : BitVec 5) (o : Operator) (m : BitVec 4) :
    (o.withSsg m).egStep kcode = (o.egStep kcode).withSsg m := by
  have sustainRelease {rate : Nat}
      (hmode : (o.egMode = .sustain ∧ rate = o.sr.toNat) ∨ (o.egMode = .release ∧ rate = o.rr.toNat)) :
      (o.withSsg m).egStep kcode = (o.egStep kcode).withSsg m := by
    rw [Operator.egStep_of_sustainRelease kcode hmode, ← Operator.sustainReleaseStep_withSsg]
    exact Operator.egStep_of_sustainRelease kcode hmode
  cases hmode : o.egMode with
  | off =>
    rw [Operator.egStep_of_off kcode hmode]
    exact Operator.egStep_of_off kcode hmode
  | attack =>
    rw [Operator.egStep_of_attack kcode hmode, ← Operator.attackStep_withSsg]
    exact Operator.egStep_of_attack kcode hmode
  | decay =>
    rw [Operator.egStep_of_decay kcode hmode, ← Operator.decayStep_withSsg]
    exact Operator.egStep_of_decay kcode hmode
  | sustain => exact sustainRelease (.inl ⟨hmode, rfl⟩)
  | sustainHold =>
    rw [Operator.egStep_of_sustainHold kcode hmode]
    exact Operator.egStep_of_sustainHold kcode hmode
  | release => exact sustainRelease (.inr ⟨hmode, rfl⟩)

/-! ## What an operator puts out -/

/-- The shifts of R187 are multiplications. -/
theorem Operator.attSum_eq (o : Operator) (am : Nat) :
    o.attSum am = o.egOut.toNat * 4 + o.tl.toNat * 32 + am := by
  rw [Operator.attSum, Nat.shiftLeft_eq, Nat.shiftLeft_eq]

theorem Operator.output_of_disabled {o : Operator} (henable : o.enable = false) (am : Nat) (p : BitVec 10) :
    o.output am p = 0 := by
  simp [Operator.output, henable]

/-- The magnitude is that of the summed attenuation, the sign that of the sine (R186). -/
theorem Operator.output_of_enabled {o : Operator} (henable : o.enable = true) (am : Nat) (p : BitVec 10) :
    o.output am p =
      (if p.toNat < 512 then 1 else -1) * ((linMag (sinTab p / 2 + o.attSum am) / 64 : Nat) : Int) := by
  rw [Operator.output, if_pos henable]
  dsimp only
  rw [sinTab_mod_two, toNat_div_512]
  by_cases hsign : p.toNat < 512
  · rw [if_neg (by omega), if_pos hsign, Nat.add_zero, logToLinear_even, one_mul]
    rfl
  · rw [if_pos (by omega), if_neg hsign, logToLinear_odd, neg_one_mul]
    rfl

/-- From attenuation 3073 on, 13 octaves and one step down, the shift by 6 leaves nothing. -/
theorem linMag_div_of_floor_le {a : Nat} (h : 3073 ≤ a) : linMag a / 64 = 0 :=
  Nat.div_eq_of_lt ((linMag_antitone h).trans_lt (by decide +kernel))

theorem Operator.output_of_floor_le {o : Operator} {am : Nat} {p : BitVec 10}
    (h : 3073 ≤ sinTab p / 2 + o.attSum am) : o.output am p = 0 := by
  cases henable : o.enable with
  | false => exact o.output_of_disabled henable am p
  | true => rw [o.output_of_enabled henable, linMag_div_of_floor_le h, Nat.cast_zero, mul_zero]

/-- A total level of 96 or more is silence: the sine itself never has attenuation 0 (R260). -/
theorem Operator.output_of_tl {o : Operator} (htl : 96 ≤ o.tl.toNat) (am : Nat) (p : BitVec 10) :
    o.output am p = 0 := by
  have hsine := sinAtt_bounds (quarterIndex p)
  refine Operator.output_of_floor_le ?_
  rw [sinTab_div_two, Operator.attSum_eq]
  omega

/-- Settles O47: the sign and the magnitude of an enabled operator, the floor, the range, and the transform's place. -/
theorem operatorOutputFormula : Obligations.OperatorOutputFormula := by
  refine ⟨fun o am p henable => o.output_of_disabled henable am p, fun o am p henable => ?_,
    fun o am p => ⟨o.output_within am p, fun htl => o.output_of_tl htl am p⟩,
    fun o hmode => o.egOut_of_transformed hmode, fun o hplain => ?_, Operator.egStep_withSsg⟩
  · rw [← Operator.attSum_eq]
    exact ⟨o.output_of_enabled henable am p, Operator.output_of_floor_le⟩
  · obtain hoff | hattack | hrelease | hssg := hplain
    · exact o.egOut_of_untransformed (.inl hoff)
    · exact o.egOut_of_untransformed (.inr (.inl hattack))
    · exact o.egOut_of_untransformed (.inr (.inr hrelease))
    · exact o.egOut_of_ssg_zero hssg

/-! ## Feedback -/

/-- R11: the arithmetic shift is a division that rounds down. -/
theorem asr_eq_ediv (x : Int) (n : Nat) : asr x n = x / 2 ^ n := by
  rw [asr, Int.shiftRight_eq_div_pow, Nat.cast_pow, Nat.cast_ofNat]

theorem Channel.feedback_of_none {ch : Channel} {k : Nat} (h : k ≠ 0 ∨ ch.fb = 0) : ch.feedback k = 0 := by
  refine if_neg fun ⟨hk, hfb⟩ => ?_
  obtain hk' | hfb' := h
  · exact hk' hk
  · exact hfb hfb'

theorem Channel.feedback_of_amount {ch : Channel} (hfb : ch.fb ≠ 0) :
    ch.feedback 0 = (ch.fbh1.toInt + ch.fbh2.toInt) / 2 ^ (10 - ch.fb.toNat) := by
  rw [Channel.feedback, if_pos ⟨rfl, hfb⟩, asr_eq_ediv]

/-- A floor division by `2^n` or more divides a range by `2^n`. -/
theorem Within.ediv_pow {b v : Int} {n m : Nat} (h : Within (b * 2 ^ n) v) (hb : 0 ≤ b) (hnm : n ≤ m) :
    Within b (v / 2 ^ m) := by
  obtain ⟨hlow, hhigh⟩ := h
  have hscale : b * 2 ^ n ≤ b * 2 ^ m := mul_le_mul_of_nonneg_left (pow_le_pow_right₀ one_le_two hnm) hb
  have hpos : (0 : Int) < 2 ^ m := by positivity
  constructor
  · rw [Int.le_ediv_iff_mul_le hpos, neg_mul]
    omega
  · rw [← Int.lt_add_one_iff, Int.ediv_lt_iff_lt_mul hpos, add_mul, one_mul]
    omega

/-- The least shift of R189 is 3, at amount 7. -/
theorem Channel.feedback_within {ch : Channel} (hfbh1 : Within 4096 ch.fbh1.toInt)
    (hfbh2 : Within 4096 ch.fbh2.toInt) : Within 1024 (ch.feedback 0) := by
  by_cases hfb : ch.fb = 0
  · rw [Channel.feedback_of_none (.inr hfb)]
    exact within_zero 1024
  · have hsum : Within (1024 * 2 ^ 3) (ch.fbh1.toInt + ch.fbh2.toInt) := by
      unfold Within at *
      omega
    have hamount := ch.fb.isLt
    rw [Channel.feedback_of_amount hfb]
    exact hsum.ediv_pow (by decide) (by omega)

/-- Of the channel record the evaluation reads the algorithm and the feedback terms alone. -/
theorem Channel.evalFrom_congr {ch ch' : Channel} (ops : Config.OperatorCount) (am : Nat)
    (halg : ch'.alg = ch.alg) (hfeedback : ∀ k, ch'.feedback k = ch.feedback k) (rest : List Operator)
    (outs : List Int) : ch'.evalFrom ops am rest outs = ch.evalFrom ops am rest outs := by
  induction rest generalizing outs with
  | nil => rfl
  | cons o rest ih => simp only [Channel.evalFrom, halg, hfeedback, ih]

/-- With amount 0 the history does not reach the outputs (R189). -/
theorem Channel.outputs_of_history {ch : Channel} (hfb : ch.fb = 0) (ops : Config.OperatorCount) (am : Nat)
    (x y : BitVec 14) :
    ({ ch with fbh1 := x, fbh2 := y } : Channel).outputs ops am = ch.outputs ops am := by
  refine Channel.evalFrom_congr (ch := ch) (ch' := { ch with fbh1 := x, fbh2 := y }) ops _ rfl (fun k => ?_) ch.ops []
  rw [Channel.feedback_of_none (ch := ch) (.inr hfb)]
  exact Channel.feedback_of_none (.inr hfb)

/-- Settles O48: the term by its two cases, its range by the least shift, and what the evaluation reads. -/
theorem feedbackTerm : Obligations.FeedbackTerm :=
  ⟨fun _ _ => Channel.feedback_of_none, fun _ => Channel.feedback_of_amount,
    fun _ => Channel.feedback_within, fun _ ops am x y hfb => Channel.outputs_of_history hfb ops am x y⟩

/-! ## Routing within one sample -/

/-- R192: in every row of the algorithm tables an operator's modulators stand before it. -/
theorem modTables_ordered :
    ∀ row ∈ mods2 ++ mods4, ∀ entry ∈ row.zipIdx, ∀ m ∈ entry.1, m < entry.2 := by decide

/-- A member of a table's entry is one of an entry the table has: the default entry is empty. -/
theorem exists_getElem?_of_mem_getD {α : Type} {rows : List (List α)} {i : Nat} {x : α}
    (h : x ∈ rows.getD i []) : ∃ row, rows[i]? = some row ∧ x ∈ row := by
  rw [List.getD_eq_getElem?_getD] at h
  cases hrow : rows[i]? with
  | none => simp [hrow] at h
  | some row => exact ⟨row, rfl, by simpa [hrow] using h⟩

/-- Every modulator comes before what it modulates (R185, R195). -/
theorem lt_of_mem_modsOf {ops : Config.OperatorCount} {alg : BitVec 3} {k m : Nat} (h : m ∈ modsOf ops alg k) :
    m < k := by
  have ordered (rows : List (List (List Nat))) (hrows : rows ⊆ mods2 ++ mods4) (i : Nat)
      (hm : m ∈ (rows.getD i []).getD k []) : m < k := by
    obtain ⟨mods, hmods, hmem⟩ := exists_getElem?_of_mem_getD hm
    obtain ⟨row, hrow, -⟩ := exists_getElem?_of_mem_getD (List.mem_of_getElem? hmods)
    rw [List.getD_eq_getElem?_getD, hrow, Option.getD_some] at hmods
    exact modTables_ordered row (hrows (List.mem_of_getElem? hrow)) (mods, k)
      (List.mem_zipIdx_iff_getElem?.mpr hmods) m hmem
  cases ops with
  | two => exact ordered mods2 (List.subset_append_left _ _) _ h
  | four => exact ordered mods4 (List.subset_append_right _ _) _ h

/-- The output of operator `o` at place `k`, its modulators' outputs read from `outs` (R186, R188, R191). -/
def Channel.outputAt (ch : Channel) (ops : Config.OperatorCount) (am : Nat) (outs : List Int) (k : Nat)
    (o : Operator) : Int :=
  o.output am (phaseIndexOf o (sumAt outs (modsOf ops ch.alg k)) (ch.feedback k))

theorem Channel.evalFrom_cons (ch : Channel) (ops : Config.OperatorCount) (am : Nat) (o : Operator)
    (rest : List Operator) (outs : List Int) :
    ch.evalFrom ops am (o :: rest) outs =
      ch.evalFrom ops am rest (outs ++ [ch.outputAt ops am outs outs.length o]) := rfl

/-- The evaluation appends one output for each operator. -/
theorem Channel.length_evalFrom (ch : Channel) (ops : Config.OperatorCount) (am : Nat) (rest : List Operator)
    (outs : List Int) : (ch.evalFrom ops am rest outs).length = outs.length + rest.length := by
  induction rest generalizing outs with
  | nil => rfl
  | cons o rest ih =>
    rw [Channel.evalFrom_cons, ih, List.length_append, List.length_singleton, List.length_cons]
    omega

theorem Channel.length_outputs (ch : Channel) (ops : Config.OperatorCount) (am : Nat) :
    (ch.outputs ops am).length = ch.ops.length := by
  rw [Channel.outputs, Channel.length_evalFrom, List.length_nil, Nat.zero_add]

/-- The evaluation keeps the outputs that are already there. -/
theorem Channel.evalFrom_getElem?_of_lt (ch : Channel) (ops : Config.OperatorCount) (am : Nat)
    (rest : List Operator) {outs : List Int} {m : Nat} (hm : m < outs.length) :
    (ch.evalFrom ops am rest outs)[m]? = outs[m]? := by
  induction rest generalizing outs with
  | nil => rfl
  | cons o rest ih =>
    rw [Channel.evalFrom_cons, ih (by rw [List.length_append]; omega), List.getElem?_append_left hm]

/-- An operator reads the same outputs from the FINISHED sample as at its turn: its modulators come before it
(R185, R195). -/
theorem Channel.outputAt_evalFrom (ch : Channel) (ops : Config.OperatorCount) (am : Nat) (rest : List Operator)
    (outs : List Int) (o : Operator) :
    ch.outputAt ops am (ch.evalFrom ops am rest outs) outs.length o = ch.outputAt ops am outs outs.length o := by
  have hsum : sumAt (ch.evalFrom ops am rest outs) (modsOf ops ch.alg outs.length) =
      sumAt outs (modsOf ops ch.alg outs.length) := by
    refine congrArg List.sum (List.map_congr_left fun m hm => ?_)
    rw [List.getD_eq_getElem?_getD, ch.evalFrom_getElem?_of_lt ops am rest (lt_of_mem_modsOf hm),
      List.getD_eq_getElem?_getD]
  rw [Channel.outputAt, hsum, Channel.outputAt]

/-- The `j`-th operator still to come puts out what the finished sample gives it. -/
theorem Channel.evalFrom_getElem? (ch : Channel) (ops : Config.OperatorCount) (am : Nat) {rest : List Operator}
    (outs : List Int) {j : Nat} {o : Operator} (ho : rest[j]? = some o) :
    (ch.evalFrom ops am rest outs)[outs.length + j]? =
      some (ch.outputAt ops am (ch.evalFrom ops am rest outs) (outs.length + j) o) := by
  induction rest generalizing outs j with
  | nil => simp at ho
  | cons first rest ih =>
    cases j with
    | zero =>
      obtain rfl : first = o := by simpa using ho
      rw [Nat.add_zero, Channel.outputAt_evalFrom, Channel.evalFrom_cons,
        Channel.evalFrom_getElem?_of_lt _ _ _ _ (by simp), List.getElem?_concat_length]
    | succ j =>
      have later := ih (outs ++ [ch.outputAt ops am outs outs.length first]) (by simpa using ho)
      rwa [List.length_append, List.length_singleton, Nat.add_right_comm] at later

theorem Channel.outputs_getElem? {ch : Channel} {k : Nat} {o : Operator} (ho : ch.ops[k]? = some o)
    (ops : Config.OperatorCount) (am : Nat) :
    (ch.outputs ops am)[k]? = some (ch.outputAt ops (amContrib ch.ams am) (ch.outputs ops am) k o) := by
  have hfirst := ch.evalFrom_getElem? ops (amContrib ch.ams am) [] ho
  rwa [List.length_nil, Nat.zero_add] at hfirst

/-- The shifts of R122 and R188 are divisions. -/
theorem phaseIndexOf_eq (o : Operator) (modsum fb : Int) :
    phaseIndexOf o modsum fb = BitVec.ofInt 10 ((o.phase.toNat / 1024 : Nat) + modsum / 2 + fb) := by
  rw [phaseIndexOf, Operator.phaseIndex, Nat.shiftRight_eq_div_pow, asr_eq_ediv]
  rfl

/-- Settles O49: the tables are evaluated, their order is checked row by row, and the order is what lets the outputs
that an operator sees be those of the finished sample. -/
theorem operatorsRouteWithinTheSample : Obligations.OperatorsRouteWithinTheSample := by
  refine ⟨by decide, by decide, fun _ _ _ _ => lt_of_mem_modsOf, fun ch ops am k o ho => ?_⟩
  rw [Channel.outputs_getElem? ho, Channel.outputAt, phaseIndexOf_eq]
  rfl

/-! ## The channel sample -/

/-- A channel whose operators are all disabled has silent outputs, an operator that is not there included. -/
theorem Channel.outputs_getD_of_disabled {ch : Channel} (hdisabled : ∀ o ∈ ch.ops, o.enable = false)
    (ops : Config.OperatorCount) (am k : Nat) : (ch.outputs ops am).getD k 0 = 0 := by
  rw [List.getD_eq_getElem?_getD]
  cases ho : ch.ops[k]? with
  | none =>
    have hbeyond : (ch.outputs ops am).length ≤ k := by
      rw [Channel.length_outputs]
      exact List.getElem?_eq_none_iff.mp ho
    rw [List.getElem?_eq_none hbeyond, Option.getD_none]
  | some o =>
    rw [Channel.outputs_getElem? ho, Option.getD_some]
    exact o.output_of_disabled (hdisabled o (List.mem_of_getElem? ho)) _ _

theorem sumAt_eq_zero {outs : List Int} (hzero : ∀ k, outs.getD k 0 = 0) (idx : List Nat) : sumAt outs idx = 0 :=
  List.sum_eq_zero (List.forall_mem_map.mpr fun m _ => hzero m)

/-- The channel sample fits its register (R194). -/
theorem Channel.eval_chout_toInt (ch : Channel) (ops : Config.OperatorCount) (am : Nat) :
    (ch.eval ops am).chout.toInt = sumAt (ch.outputs ops am) (carriersOf ops ch.alg) := by
  rw [Channel.eval_chout, toInt_ofInt_of_within (ch.carrierSum_within ops am) (by decide) (by decide)]

/-- An operator's output fits the history (R190). -/
theorem Channel.eval_fbh1_toInt (ch : Channel) (ops : Config.OperatorCount) (am : Nat) :
    (ch.eval ops am).fbh1.toInt = (ch.outputs ops am).getD 0 0 := by
  rw [Channel.eval_fbh1, toInt_ofInt_of_within (ch.outputs_getD_within ops am 0) (by decide) (by decide)]

/-- A channel whose operators are all disabled puts out 0 and fills its history with 0 (R196). -/
theorem Channel.eval_of_disabled {ch : Channel} (hdisabled : ∀ o ∈ ch.ops, o.enable = false)
    (ops : Config.OperatorCount) (am : Nat) : (ch.eval ops am).chout = 0 ∧ (ch.eval ops am).fbh1 = 0 := by
  have hzero := Channel.outputs_getD_of_disabled hdisabled ops am
  rw [Channel.eval_chout, Channel.eval_fbh1, sumAt_eq_zero hzero, hzero 0]
  exact ⟨rfl, rfl⟩

/-- Settles O50: what each register holds is its quantity because the quantity is in range, silence comes from the
outputs, and a SAMPLETICK maps over the channels. -/
theorem channelSampleAndHistory : Obligations.ChannelSampleAndHistory := by
  refine ⟨fun ch ops am => ⟨ch.eval_chout_toInt ops am, ?_, ch.eval_fbh2 ops am, ch.eval_fbh1_toInt ops am, ?_⟩,
    fun ch ops am hdisabled => Channel.eval_of_disabled hdisabled ops am, fun s c ch hch => ?_⟩
  · rw [Channel.eval_chout_toInt]
    exact ch.carrierSum_within ops am
  · rw [Channel.eval_fbh1_toInt]
    exact ch.outputs_getD_within ops am 0
  · rw [chan?_sampleTick, hch]
    rfl

end Sys2Proof.Machine
end

section
/-!
SUPPORT. The write scheduler over chip clocks: the two things one chip clock can do, the closed form of a run of chip
clocks in which nothing is accepted, and the chip clock at which the entry that waits is taken. Settled here: the
statements of the queue, with its two host operations `write` and `read`.
-/

namespace Sys2Proof.Machine

/-! ## Counting down -/

/-- The state after `m` chip clocks that accept nothing. -/
def State.countedDown (m : Nat) (s : State) : State :=
  { s with busyCnt := BitVec.ofNat 24 (s.busyCnt.toNat - m) }

@[simp] theorem State.countedDown_cfg (m : Nat) (s : State) : (s.countedDown m).cfg = s.cfg := rfl

@[simp] theorem State.countedDown_queue (m : Nat) (s : State) : (s.countedDown m).queue = s.queue := rfl

@[simp] theorem State.countedDown_busyCnt_toNat (m : Nat) (s : State) :
    (s.countedDown m).busyCnt.toNat = s.busyCnt.toNat - m :=
  Nat.mod_eq_of_lt ((Nat.sub_le _ _).trans_lt s.busyCnt.isLt)

theorem State.countedDown_busyCnt_eq_zero_iff {m : Nat} {s : State} :
    (s.countedDown m).busyCnt = 0 ↔ s.busyCnt.toNat ≤ m := by
  rw [← BitVec.toNat_inj, State.countedDown_busyCnt_toNat]
  exact Nat.sub_eq_zero_iff_le

@[simp] theorem State.countedDown_zero (s : State) : s.countedDown 0 = s := by
  rw [State.countedDown, Nat.sub_zero, BitVec.ofNat_toNat, BitVec.setWidth_eq]

theorem State.countedDown_countedDown (m n : Nat) (s : State) :
    (s.countedDown m).countedDown n = s.countedDown (m + n) := by
  rw [State.countedDown, State.countedDown_busyCnt_toNat, Nat.sub_sub]
  rfl

/-- The decrement of R214 is a subtraction that stops at 0. -/
theorem State.countDown_eq_countedDown (s : State) : s.countDown = s.countedDown 1 := by
  have hbusy : (if s.busyCnt = 0 then 0 else s.busyCnt - 1) = BitVec.ofNat 24 (s.busyCnt.toNat - 1) := by
    split
    next hzero => rw [hzero]; rfl
    next hpos => bv_omega
  rw [State.countDown, hbusy]
  rfl

/-! ## One chip clock -/

/-- With no entry to take, or a duration that does not end now, a chip clock only counts down (R214, R217). -/
theorem subtick_of_idle {s : State} (idle : s.queue = [] ∨ 2 ≤ s.busyCnt.toNat) :
    subtick s = s.countedDown 1 := by
  rw [subtick, State.countDown_eq_countedDown]
  rcases (s.countedDown 1).acceptHead_cases with ⟨-, h⟩ | ⟨e, rest, hbusy, hqueue, -⟩
  · exact h
  · exfalso
    rcases idle with hnil | hlong
    · rw [State.countedDown_queue, hnil] at hqueue
      cases hqueue
    · have due := State.countedDown_busyCnt_eq_zero_iff.mp hbusy
      omega

/-- With an entry waiting and the duration over, a chip clock takes the head and runs it (R214). -/
theorem subtick_of_due {s : State} {e : Entry} {rest : List Entry} (hqueue : s.queue = e :: rest)
    (due : s.busyCnt.toNat ≤ 1) :
    subtick s = applyCommand (decodeEntry s.cfg e.word) { s with queue := rest, busyCnt := 0 } := by
  have hzero : (s.countedDown 1).busyCnt = 0 := State.countedDown_busyCnt_eq_zero_iff.mpr due
  rw [subtick, State.countDown_eq_countedDown]
  rcases (s.countedDown 1).acceptHead_cases with ⟨hbusy | hnil, -⟩ | ⟨e', rest', -, hcons, h⟩
  · exact absurd hzero hbusy
  · rw [State.countedDown_queue, hqueue] at hnil
    cases hnil
  · rw [State.countedDown_queue, hqueue] at hcons
    cases hcons
    rw [h, ← hzero]
    rfl

theorem subtick_queue_of_due {s : State} {e : Entry} {rest : List Entry} (hqueue : s.queue = e :: rest)
    (due : s.busyCnt.toNat ≤ 1) : (subtick s).queue = rest := by
  rw [subtick_of_due hqueue due, applyCommand_queue]

/-- A chip clock keeps the queue or takes its head (R215). -/
theorem subtick_queue_eq_or_cons (s : State) :
    (subtick s).queue = s.queue ∨ ∃ e, s.queue = e :: (subtick s).queue := by
  cases hqueue : s.queue with
  | nil =>
    left
    rw [subtick_of_idle (.inl hqueue), State.countedDown_queue, hqueue]
  | cons e rest =>
    by_cases due : s.busyCnt.toNat ≤ 1
    · right
      exact ⟨e, by rw [subtick_queue_of_due hqueue due]⟩
    · left
      rw [subtick_of_idle (.inr (by omega)), State.countedDown_queue, hqueue]

/-! ## The busy duration of a command -/

/-- R267: WAIT sets the duration it carries. -/
@[simp] theorem applyCommand_wait_busyCnt (n : BitVec 24) (s : State) :
    (applyCommand (.wait n) s).busyCnt = n := rfl

/-- R214, R268: every other queue command sets `BUSY_WRITE`. -/
theorem applyCommand_busyCnt_of_ne_wait {i : Instr} (queued : i.isQueueCommand = true)
    (notWait : ∀ n, i ≠ .wait n) (s : State) : (applyCommand i s).busyCnt = s.cfg.busyWrite := by
  cases i
  case wait n => exact absurd rfl (notWait n)
  case reset | write | read | generate | setVolume | tick => cases queued
  all_goals rfl

/-! ## Runs of chip clocks -/

theorem subticks_succ_eq_subtick (n : Nat) : ∀ s : State, subticks (n + 1) s = subtick (subticks n s) := by
  induction n with
  | zero => exact fun _ => rfl
  | succ n ih => exact fun s => ih (subtick s)

/-- As long as nothing waits, or the duration has not ended, chip clocks only count down (R216, R217). -/
theorem subticks_of_idle (m : Nat) :
    ∀ {s : State}, s.queue = [] ∨ m < max s.busyCnt.toNat 1 → subticks m s = s.countedDown m := by
  induction m with
  | zero => exact fun _ => (State.countedDown_zero _).symm
  | succ m ih =>
    intro s idle
    have first : subtick s = s.countedDown 1 := subtick_of_idle (idle.imp_right fun h => by omega)
    have later : (s.countedDown 1).queue = [] ∨ m < max (s.countedDown 1).busyCnt.toNat 1 := by
      rw [State.countedDown_queue, State.countedDown_busyCnt_toNat]
      exact idle.imp_right fun h => by omega
    rw [subticks_succ, first, ih later, State.countedDown_countedDown, Nat.add_comm]

/-- The entry that waits is taken at chip clock `max(d, 1)`, the last chip clock of the duration `d` (R216, R220). -/
theorem subticks_queue_of_due {s : State} {e : Entry} {rest : List Entry} (hqueue : s.queue = e :: rest) :
    (subticks (max s.busyCnt.toNat 1) s).queue = rest := by
  obtain ⟨m, hm⟩ : ∃ m, max s.busyCnt.toNat 1 = m + 1 := ⟨max s.busyCnt.toNat 1 - 1, by omega⟩
  have before : subticks m s = s.countedDown m := subticks_of_idle m (.inr (by omega))
  rw [hm, subticks_succ_eq_subtick, before]
  apply subtick_queue_of_due (e := e)
  · rw [State.countedDown_queue, hqueue]
  · rw [State.countedDown_busyCnt_toNat]
    omega

/-- `n` chip clocks take at most `n` entries, from the head (R215). -/
theorem subticks_queue_eq_drop (n : Nat) :
    ∀ s : State, ∃ k, k ≤ n ∧ (subticks n s).queue = s.queue.drop k := by
  induction n with
  | zero => exact fun _ => ⟨0, le_rfl, rfl⟩
  | succ n ih =>
    intro s
    obtain ⟨k, hk, later⟩ := ih (subtick s)
    rw [subticks_succ, later]
    rcases subtick_queue_eq_or_cons s with hsame | ⟨e, hcons⟩
    · exact ⟨k, by omega, by rw [hsame]⟩
    · exact ⟨k + 1, by omega, by rw [hcons, List.drop_succ_cons]⟩

/-! ## The statements of the scheduler -/

/-- Settles O9: the two cases of a chip clock, the duration of the command it runs, and the run of chip clocks up to
the one that accepts. -/
theorem subtickAcceptsOrCountsDown : Obligations.SubtickAcceptsOrCountsDown := by
  refine ⟨fun s => subtick_of_idle, fun s e rest hqueue due => ?_, fun s e rest d hqueue hd hpos => ?_⟩
  · have queued := decodeEntry_isQueueCommand s.cfg e.word
    rw [subtick_of_due hqueue due]
    refine ⟨exec_queueCommand queued _, applyCommand_queue _ _, fun n hwait => ?_, fun notWait => ?_⟩
    · rw [hwait, applyCommand_wait_busyCnt]
    · exact applyCommand_busyCnt_of_ne_wait queued notWait _
  · have hmax : max s.busyCnt.toNat 1 = d := by omega
    constructor
    · rw [subticks_of_idle (d - 1) (.inr (by omega)), State.countedDown_queue, hqueue]
    · rw [← hmax]
      exact subticks_queue_of_due hqueue

/-- Settles O10: one chip clock takes at most the head, and the rest is induction on the number of chip clocks. -/
theorem atMostOneEntryPerChipClock : Obligations.AtMostOneEntryPerChipClock :=
  ⟨subtick_queue_eq_or_cons, subticks_queue_eq_drop⟩

/-- Settles O11: the closed form of the run of chip clocks before the acceptance, and the acceptance. -/
theorem busyDurationSeparatesEntries : Obligations.BusyDurationSeparatesEntries :=
  ⟨fun _ _ _ hqueue => ⟨fun m hm => subticks_of_idle m (.inr hm), subticks_queue_of_due hqueue⟩,
    fun _ m hnil => subticks_of_idle m (.inl hnil)⟩

/-! ## The host's side of the queue -/

/-- Settles O29: the READY check passes, and what is left of `write` is the append. -/
theorem writeAppendsOneEntry : Obligations.WriteAppendsOneEntry :=
  fun _ a v ready => execWrite_of_ready a v ready

/-- STATUS as a number: bit 7 is the busy flag, bit 6 the pending flag (R47). -/
theorem State.status_toNat (s : State) :
    s.status.toNat = s.busyFlag.toNat * 0x80 + s.pendingFlag.toNat * 0x40 := by
  rw [State.status]
  cases s.busyFlag <;> cases s.pendingFlag <;> rfl

theorem State.busyFlag_toNat (s : State) : s.busyFlag.toNat = if s.busyCnt = 0 then 0 else 1 := by
  rw [State.busyFlag]
  split
  next hzero => rw [hzero]; rfl
  next hbusy => rw [bne_iff_ne.mpr hbusy]; rfl

theorem State.pendingFlag_toNat (s : State) : s.pendingFlag.toNat = if s.queue = [] then 0 else 1 := by
  rw [State.pendingFlag]
  cases s.queue <;> rfl

theorem State.readKey_of_readsStatus {s : State} {a : Key} (h : readsStatus s.cfg a = true) :
    s.readKey a = s.status := if_pos h

theorem State.readKey_of_not_readsStatus {s : State} {a : Key} (h : readsStatus s.cfg a = false) :
    s.readKey a = s.cfg.readSentinel := if_neg (Bool.eq_false_iff.mp h)

/-- In the reference map STATUS is read at key 0 alone: its one read row compares all 32 bits (R64). -/
theorem readsStatus_reference_iff {p : Config.Params} (hmap : p.map = Config.referenceMap) (a : Key) :
    readsStatus p a = true ↔ a = 0 := by
  have hmask : a &&& 0xFFFFFFFF#32 = a := BitVec.and_allOnes
  have hkeys : p.map.statusKeys = [⟨0, 0xFFFFFFFF⟩] := by rw [hmap]; rfl
  rw [readsStatus, hkeys, List.any_cons, List.any_nil, Bool.or_false, beq_iff_eq]
  exact Eq.congr_left hmask

/-- Settles O30: `read` hands back `State.readKey`, which is STATUS or the sentinel as the key is one of STATUS. -/
theorem readReturnsStatusOrSentinel : Obligations.ReadReturnsStatusOrSentinel := by
  intro s a ready
  refine ⟨s.readKey a, execRead_of_ready a ready, fun hstatus => ?_, State.readKey_of_not_readsStatus,
    fun hmap => readsStatus_reference_iff hmap a⟩
  rw [State.readKey_of_readsStatus hstatus, State.status_toNat, State.busyFlag_toNat, State.pendingFlag_toNat,
    ite_mul, ite_mul]

end Sys2Proof.Machine
end

section
/-!
SUPPORT. Two blocks that run alike: a relation between states that every chip clock, or every sample, keeps. On it rest
the loop of R231, which writes `CLKACC` last where the machine writes it first, the resumption of `generate`, which
meets a reply in between, and the channels that do not interact.
-/

/- Checked one after another, as the tables are: more threads take more memory than the sandbox allows. -/
set_option Elab.async false

namespace Sys2Proof.Machine

/-! ## Relations that chip clocks and samples keep -/

/-- States that `R` relates have the same scheduler, and `R` survives each part of a chip clock. -/
structure ClockedAlike (R : State → State → Prop) : Prop where
  scheduler : ∀ {s s' : State}, R s s' → s'.cfg = s.cfg ∧ s'.queue = s.queue ∧ s'.busyCnt = s.busyCnt
  command : ∀ (i : Instr) {s s' : State}, R s s' → R (applyCommand i s) (applyCommand i s')
  bookkeeping : ∀ (q : List Entry) (b : BitVec 24) {s s' : State}, R s s' →
    R { s with queue := q, busyCnt := b } { s' with queue := q, busyCnt := b }

/-- States that `R` relates have the same divider as well, and `R` survives each part of a sample. -/
structure SampledAlike (R : State → State → Prop) : Prop extends ClockedAlike R where
  clocks : ∀ {s s' : State}, R s s' → s'.clkNum = s.clkNum ∧ s'.clkDen = s.clkDen ∧ s'.clkAcc = s.clkAcc
  divider : ∀ (acc : BitVec 32) {s s' : State}, R s s' → R { s with clkAcc := acc } { s' with clkAcc := acc }
  sample : ∀ {s s' : State}, R s s' → R (sampleTick s) (sampleTick s')

section
variable {R : State → State → Prop}

/-- Both blocks count down, or both accept the same entry (R214). -/
theorem ClockedAlike.subtick (alike : ClockedAlike R) {s s' : State} (h : R s s') :
    R (subtick s) (subtick s') := by
  obtain ⟨hcfg, hqueue, hbusy⟩ := alike.scheduler h
  by_cases idle : s.queue = [] ∨ 2 ≤ s.busyCnt.toNat
  · have idle' : s'.queue = [] ∨ 2 ≤ s'.busyCnt.toNat := by rwa [hqueue, hbusy]
    have counted := alike.bookkeeping s.queue (s.countedDown 1).busyCnt h
    have same : s'.countedDown 1 = { s' with queue := s.queue, busyCnt := (s.countedDown 1).busyCnt } := by
      rw [← hqueue, State.countedDown, State.countedDown, ← hbusy]
    rwa [subtick_of_idle idle, subtick_of_idle idle', same]
  · obtain ⟨hcons, due⟩ := not_or.mp idle
    obtain ⟨e, rest, hq⟩ := List.exists_cons_of_ne_nil hcons
    have accepted := alike.command (decodeEntry s.cfg e.word) (alike.bookkeeping rest 0 h)
    rwa [subtick_of_due hq (by omega), subtick_of_due (hqueue.trans hq) (by rw [hbusy]; omega),
      congrArg (decodeEntry · e.word) hcfg]

theorem ClockedAlike.subticks (alike : ClockedAlike R) (n : Nat) :
    ∀ {s s' : State}, R s s' → R (subticks n s) (subticks n s') := by
  induction n with
  | zero => exact fun h => h
  | succ n ih => exact fun h => ih (alike.subtick h)

/-- Both blocks run the same number of chip clocks in a sample, and then their SAMPLETICK (R231, R234). -/
theorem SampledAlike.oneSample (alike : SampledAlike R) {s s' : State} (h : R s s') :
    R (oneSample s) (oneSample s') := by
  obtain ⟨hnum, hden, hacc⟩ := alike.clocks h
  have hcount : s'.subtickCount = s.subtickCount := by
    rw [State.subtickCount, State.subtickCount, hnum, hden, hacc]
  have hrest : s'.dividerRest = s.dividerRest := by
    rw [State.dividerRest, State.dividerRest, hnum, hden, hacc]
  have clocked := alike.subticks s.subtickCount (alike.divider s.dividerRest h)
  rw [Machine.oneSample, Machine.oneSample, clockDivider, clockDivider, hcount, hrest]
  exact alike.sample clocked

theorem SampledAlike.generateSamples (alike : SampledAlike R) (n : Nat) :
    ∀ {s s' : State}, R s s' → R (generateSamples n s).1 (generateSamples n s').1 := by
  induction n with
  | zero => exact fun h => h
  | succ n ih => exact fun h => ih (alike.oneSample h)

/-- Where related states hold the same output pair, the samples are the same. -/
theorem SampledAlike.generateSamples_samples (alike : SampledAlike R)
    (outputs : ∀ {s s' : State}, R s s' → s'.outL = s.outL ∧ s'.outR = s.outR) (n : Nat) :
    ∀ {s s' : State}, R s s' → (Machine.generateSamples n s').2 = (Machine.generateSamples n s).2 := by
  induction n with
  | zero => exact fun _ => rfl
  | succ n ih =>
    intro s s' h
    obtain ⟨hleft, hright⟩ := outputs (alike.oneSample h)
    rw [generateSamples_succ, generateSamples_succ, ih (alike.oneSample h), hleft, hright]

end

/-! ## The clock divider -/

/-- `CLKACC <- acc` (R231). -/
def State.withClkAcc (acc : BitVec 32) (s : State) : State := { s with clkAcc := acc }

/-- No chip clock reads `CLKACC` (R231). -/
theorem clockedAlike_withClkAcc (acc : BitVec 32) : ClockedAlike fun s s' => s' = s.withClkAcc acc where
  scheduler := by rintro s _ rfl; exact ⟨rfl, rfl, rfl⟩
  command i := by rintro s _ rfl; cases i <;> rfl
  bookkeeping q b := by rintro s _ rfl; rfl

/-- A chip clock before the write of `CLKACC` is one after it. -/
theorem subtick_withClkAcc (acc : BitVec 32) (s : State) :
    subtick (s.withClkAcc acc) = (subtick s).withClkAcc acc :=
  (clockedAlike_withClkAcc acc).subtick rfl

/-- The loop of R231 as the machine has it: the quotient counts its turns and the remainder is what it leaves. -/
theorem dividerLoop_eq (fuel : Nat) :
    ∀ {acc : Nat} {s : State}, s.clkDen.toNat ≠ 0 → acc < fuel →
      dividerLoop fuel acc s =
        subticks (acc / s.clkDen.toNat) (s.withClkAcc (BitVec.ofNat 32 (acc % s.clkDen.toNat))) := by
  induction fuel with
  | zero => exact fun _ hfuel => absurd hfuel (Nat.not_lt_zero _)
  | succ fuel ih =>
    intro acc s hden hfuel
    unfold dividerLoop
    split
    next hturn =>
      have later := ih (acc := acc - s.clkDen.toNat) (s := subtick s) (by rwa [subtick_clkDen]) (by omega)
      rw [later, subtick_clkDen, Nat.div_eq_sub_div (by omega) hturn, Nat.mod_eq_sub_mod hturn, subticks_succ,
        subtick_withClkAcc]
    next hend => rw [Nat.div_eq_of_lt (by omega), Nat.mod_eq_of_lt (by omega)]; rfl

@[simp] theorem subtick_clkAcc (s : State) : (subtick s).clkAcc = s.clkAcc := by rw [subtick_frame]
@[simp] theorem subtick_ready (s : State) : (subtick s).ready = s.ready := by rw [subtick_frame]

theorem clockDivider_clkAcc (s : State) : (clockDivider s).clkAcc = s.dividerRest :=
  subticks_induction (P := fun x => x.clkAcc = s.dividerRest) (fun _ h => by rwa [subtick_clkAcc]) _ _ rfl

theorem oneSample_clkAcc (s : State) : (oneSample s).clkAcc = s.dividerRest := by
  rw [oneSample, sampleTick_clkAcc, clockDivider_clkAcc]

/-- Samples leave the clock latches as they are (R26). -/
theorem generateSamples_clocks (n : Nat) (s : State) :
    (generateSamples n s).1.clkNum = s.clkNum ∧ (generateSamples n s).1.clkDen = s.clkDen := by
  obtain ⟨-, -, hnum, hden, -, -⟩ := generateSamples_sameLatches n s
  exact ⟨hnum, hden⟩

/-- `n` samples come before one, or after it. -/
theorem generateSamples_succ_state (n : Nat) :
    ∀ s : State, (generateSamples (n + 1) s).1 = oneSample (generateSamples n s).1 := by
  induction n with
  | zero => exact fun s => by rw [generateSamples_succ, generateSamples_zero, generateSamples_zero]
  | succ n ih => exact fun s => by rw [generateSamples_succ, ih, generateSamples_succ]

/-- R231: the remainder after `n` samples is that of all their clock periods together. -/
theorem generateSamples_clkAcc (n : Nat) {s : State} (h : s.clkAcc.toNat < s.clkDen.toNat) :
    (generateSamples n s).1.clkAcc.toNat = (s.clkAcc.toNat + n * s.clkNum.toNat) % s.clkDen.toNat := by
  induction n with
  | zero => rw [generateSamples_zero, Nat.zero_mul, Nat.add_zero, Nat.mod_eq_of_lt h]
  | succ n ih =>
    obtain ⟨hnum, hden⟩ := generateSamples_clocks n s
    rw [generateSamples_succ_state, oneSample_clkAcc, State.dividerRest_toNat _ (by rw [hden]; omega), ih, hnum,
      hden, Nat.mod_add_mod, Nat.succ_mul, Nat.add_assoc]

/-- The chip clocks of the sample that follows `n` samples. -/
theorem generateSamples_subtickCount (n : Nat) {s : State} (h : s.clkAcc.toNat < s.clkDen.toNat) :
    (generateSamples n s).1.subtickCount =
      ((s.clkAcc.toNat + n * s.clkNum.toNat) % s.clkDen.toNat + s.clkNum.toNat) / s.clkDen.toNat := by
  obtain ⟨hnum, hden⟩ := generateSamples_clocks n s
  rw [State.subtickCount, generateSamples_clkAcc n h, hnum, hden]

/-- A division in two portions: what the first leaves goes into the second. -/
theorem div_add_mod_add_div (a b d : Nat) (h : 0 < d) : a / d + (a % d + b) / d = (a + b) / d := by
  rw [← Nat.mul_add_div h, ← Nat.add_assoc, Nat.div_add_mod]

/-- R231: no drift. -/
theorem sum_subtickCount (n : Nat) {s : State} (h : s.clkAcc.toNat < s.clkDen.toNat) :
    ((List.range n).map fun j => (generateSamples j s).1.subtickCount).sum =
      (s.clkAcc.toNat + n * s.clkNum.toNat) / s.clkDen.toNat := by
  induction n with
  | zero => rw [Nat.zero_mul, Nat.add_zero, Nat.div_eq_of_lt h]; rfl
  | succ n ih =>
    rw [List.range_succ, List.map_append, List.sum_append, ih, List.map_singleton, List.sum_singleton,
      generateSamples_subtickCount n h, div_add_mod_add_div _ _ _ (by omega), Nat.succ_mul, Nat.add_assoc]

/-- A remainder adds at most one chip clock to a sample. -/
theorem subtickCount_eq_or_succ {s : State} (h : s.clkAcc.toNat < s.clkDen.toNat) :
    s.subtickCount = s.clkNum.toNat / s.clkDen.toNat ∨ s.subtickCount = s.clkNum.toNat / s.clkDen.toNat + 1 := by
  have hlow : s.clkNum.toNat / s.clkDen.toNat ≤ s.subtickCount := Nat.div_le_div_right (Nat.le_add_left _ _)
  have hhigh : s.subtickCount ≤ s.clkNum.toNat / s.clkDen.toNat + 1 := by
    rw [← Nat.add_div_right _ (by omega : 0 < s.clkDen.toNat)]
    exact Nat.div_le_div_right (by omega)
  omega

/-- Settles O13: the loop by its turns, the count of one sample by its bounds, and the sum over samples because each
sample's remainder goes into the next; the worked numbers are the closed forms at the scenario's clocks. -/
theorem clockDividerIsExact : Obligations.ClockDividerIsExact := by
  refine ⟨fun s fuel => dividerLoop_eq fuel, fun s => subtickCount_eq_or_succ,
    fun s n h => ⟨sum_subtickCount n h, generateSamples_clkAcc n h⟩, ?_⟩
  obtain ⟨hnum, hden, -⟩ := State.afterReset_clocks Config.reference [] (clk := 7670454) (rate := 44100) (by decide)
  have hacc : (State.afterReset Config.reference [] 7670454 44100).clkAcc.toNat = 0 := rfl
  have h : (State.afterReset Config.reference [] 7670454 44100).clkAcc.toNat <
      (State.afterReset Config.reference [] 7670454 44100).clkDen.toNat := by rw [hacc, hden]; decide
  refine ⟨?_, ?_, ?_, ?_⟩
  · rw [State.subtickCount, hacc, hnum, hden]
  · rw [generateSamples_subtickCount 1 h, hacc, hnum, hden]
  · rw [sum_subtickCount 1000 h, hacc, hnum, hden]
  · apply BitVec.eq_of_toNat_eq
    rw [generateSamples_clkAcc 1000 h, hacc, hnum, hden]
    rfl

/-! ## GENERATE and TICK -/

theorem exec_generate_of_ready {s : State} (n : Nat) (h : s.ready = true) :
    exec (.generate n) s = .next ((generateSamples n s).1.withReply (.samples (generateSamples n s).2)) :=
  execGenerate_of_ready n h

theorem generateSamples_ready (n : Nat) (s : State) : (generateSamples n s).1.ready = s.ready :=
  generateSamples_induction (P := fun x => x.ready = s.ready) (fun _ h => h)
    (fun _ h => by rwa [subtick_ready]) (fun _ h => h) n s rfl

theorem length_generateSamples (n : Nat) : ∀ s : State, (generateSamples n s).2.length = n := by
  induction n with
  | zero => exact fun _ => rfl
  | succ n ih => exact fun s => congrArg (· + 1) (ih (oneSample s))

/-- One sample: its state, and its pair in the output registers. -/
theorem generateSamples_one (s : State) :
    generateSamples 1 s = (oneSample s, [((oneSample s).outL, (oneSample s).outR)]) := rfl

/-- Settles O32: GENERATE on a ready state is `generateSamples`, whose recursion is sample by sample. -/
theorem generateIsSampleBySample : Obligations.GenerateIsSampleBySample := by
  intro s ready
  have next : (oneSample s).ready = true := (generateSamples_ready 1 s).trans ready
  refine ⟨exec_generate_of_ready 0 ready, fun n => ?_, (execTick_of_ready ready).trans
    (exec_generate_of_ready 1 ready).symm, _, execTick_of_ready ready, ?_⟩
  · exact ⟨_, _, exec_generate_of_ready n next, rfl, length_generateSamples n _,
      exec_generate_of_ready (n + 1) ready⟩
  · rw [generateSamples_one]; rfl

/-- Samples resume where the ones before them stopped (R235). -/
theorem generateSamples_add (a b : Nat) :
    ∀ s : State, generateSamples (a + b) s =
      ((generateSamples b (generateSamples a s).1).1,
        (generateSamples a s).2 ++ (generateSamples b (generateSamples a s).1).2) := by
  induction a with
  | zero => exact fun s => by rw [Nat.zero_add]; rfl
  | succ a ih => exact fun s => by rw [Nat.add_right_comm, generateSamples_succ, ih]; rfl

/-- No part of a sample reads what the call before it returned (R235: `generate` keeps no state of its own). -/
theorem sampledAlike_withReply (r : Reply) : SampledAlike fun s s' => s' = s.withReply r where
  scheduler := by rintro s _ rfl; exact ⟨rfl, rfl, rfl⟩
  command i := by rintro s _ rfl; cases i <;> rfl
  bookkeeping q b := by rintro s _ rfl; rfl
  clocks := by rintro s _ rfl; exact ⟨rfl, rfl, rfl⟩
  divider acc := by rintro s _ rfl; rfl
  sample := by rintro s _ rfl; rfl

theorem generateSamples_withReply (n : Nat) (s : State) (r : Reply) :
    generateSamples n (s.withReply r) = ((generateSamples n s).1.withReply r, (generateSamples n s).2) :=
  Prod.ext ((sampledAlike_withReply r).generateSamples n rfl)
    ((sampledAlike_withReply r).generateSamples_samples (by rintro s _ rfl; exact ⟨rfl, rfl⟩) n rfl)

/-- Settles O33: the second call runs on the state of the first but for the reply, which no sample reads. -/
theorem generateResumesExactly : Obligations.GenerateResumesExactly := by
  intro s a b ready
  have resumed : ((generateSamples a s).1.withReply (.samples (generateSamples a s).2)).ready = true :=
    (generateSamples_ready a s).trans ready
  refine ⟨_, _, _, _, exec_generate_of_ready a ready, rfl, exec_generate_of_ready b resumed, rfl, ?_⟩
  rw [exec_generate_of_ready (a + b) ready, generateSamples_add, generateSamples_withReply]
  rfl

end Sys2Proof.Machine
end

section
/-!
SUPPORT. The output composition (R238 to R241): the panned sums, the volume stage as an attenuation added to that of its
input, and its one quantitative law, that neighbouring magnitudes lie within 0.28 % of each other.
-/

/- Checked one after another, as the tables are: more threads take more memory than the sandbox allows. -/
set_option Elab.async false

namespace Sys2Proof.Machine

/-! ## The mix -/

theorem pan_getLsbD_one_iff (pan : BitVec 2) : pan.getLsbD 1 = true ↔ pan = 2 ∨ pan = 3 := by
  revert pan; decide

theorem pan_getLsbD_zero_iff (pan : BitVec 2) : pan.getLsbD 0 = true ↔ pan = 1 ∨ pan = 3 := by
  revert pan; decide

/-- R238: the left mix takes the channels panned left or to both sides. -/
theorem mixOf_one (chs : List Channel) :
    mixOf 1 chs = (chs.map fun ch => if ch.pan = 2 ∨ ch.pan = 3 then ch.chout.toInt else 0).sum :=
  congrArg List.sum (List.map_congr_left fun ch _ => if_congr (pan_getLsbD_one_iff ch.pan) rfl rfl)

/-- R238: the right mix takes the channels panned right or to both sides. -/
theorem mixOf_zero (chs : List Channel) :
    mixOf 0 chs = (chs.map fun ch => if ch.pan = 1 ∨ ch.pan = 3 then ch.chout.toInt else 0).sum :=
  congrArg List.sum (List.map_congr_left fun ch _ => if_congr (pan_getLsbD_zero_iff ch.pan) rfl rfl)

/-- Every channel sample of a SAMPLETICK is in range, whatever state it starts from (R35). -/
theorem sampleTick_chout_within (s : State) : ∀ ch ∈ (sampleTick s).ch, Within 16384 ch.chout.toInt := by
  refine List.forall_mem_map.mpr fun ch _ => ?_
  have hrange := ch.carrierSum_within s.cfg.ops s.amOut
  rwa [← Channel.eval_chout_toInt] at hrange

/-- R241: up to eight channels make a mix of at most `2^17`. -/
theorem mixOf_sampleTick_within (side : Nat) {s : State} (h : s.ch.length ≤ 8) :
    Within 131072 (mixOf side (sampleTick s).ch) := by
  have hlen : (sampleTick s).ch.length ≤ 8 := by rwa [sampleTick_ch, List.length_map]
  exact (mixOf_within side (sampleTick_chout_within s)).mono (by omega)

/-- The volume stage keeps a range (R239). -/
theorem volumeStage_within (vol : BitVec 12) {b : Nat} {mix : Int} (h : Within b mix) :
    Within b (volumeStage vol mix) :=
  within_iff_natAbs.mpr ((natAbs_volumeStage_le vol mix).trans (within_iff_natAbs.mp h))

/-- An output register holds the volume stage's value unchanged (R241). -/
theorem output_toInt (vol : BitVec 12) {mix : Int} (h : Within 131072 mix) :
    (BitVec.ofInt 32 (volumeStage vol mix)).toInt = volumeStage vol mix :=
  toInt_ofInt_of_within (volumeStage_within vol h) (by decide) (by decide)

/-- Settles O51: the sums by the pan bits, their range by eight channels, and the outputs because what the volume stage
gives fits them. -/
theorem outputsAreThePannedMix : Obligations.OutputsAreThePannedMix := by
  intro s h
  have hleft := mixOf_sampleTick_within 1 h
  have hright := mixOf_sampleTick_within 0 h
  have houtL : (sampleTick s).outL.toInt = volumeStage s.vol (mixOf 1 (sampleTick s).ch) := output_toInt s.vol hleft
  have houtR : (sampleTick s).outR.toInt = volumeStage s.vol (mixOf 0 (sampleTick s).ch) := output_toInt s.vol hright
  dsimp only
  rw [← mixOf_one, ← mixOf_zero, houtL, houtR]
  exact ⟨hleft, hright, rfl, rfl, volumeStage_within s.vol hleft, volumeStage_within s.vol hright⟩

/-! ## The volume stage -/

theorem volumeStage_eq (vol : BitVec 12) (m : Int) :
    volumeStage vol m =
      if m < 0 then -(linMag (attOf m.natAbs + vol.toNat) : Int) else linMag (attOf m.natAbs + vol.toNat) := by
  unfold volumeStage linearToLog
  split
  · rw [show 2 * attOf m.natAbs + 1 + 2 * vol.toNat = 2 * (attOf m.natAbs + vol.toNat) + 1 by omega,
      logToLinear_odd, pow_zero, Nat.div_one]
  · rw [show 2 * attOf m.natAbs + 0 + 2 * vol.toNat = 2 * (attOf m.natAbs + vol.toNat) by omega,
      logToLinear_even, pow_zero, Nat.div_one]

/-- R239: the volume adds to the attenuation of the magnitude. -/
theorem natAbs_volumeStage (vol : BitVec 12) (m : Int) :
    (volumeStage vol m).natAbs = linMag (attOf m.natAbs + vol.toNat) := by
  rw [volumeStage_eq]
  split
  · rw [Int.natAbs_neg, Int.natAbs_natCast]
  · exact Int.natAbs_natCast _

/-- R239 (d): beyond the ceiling the stage is silent. -/
theorem volumeStage_eq_zero {vol : BitVec 12} {m : Int} (h : 4095 < attOf m.natAbs + vol.toNat) :
    volumeStage vol m = 0 := by
  rw [← Int.natAbs_eq_zero, natAbs_volumeStage, linMag_of_ceiling_lt h]

/-- R239 (b): a magnitude below 4 is silence before any volume is added. -/
theorem volumeStage_of_natAbs_le_three (vol : BitVec 12) {m : Int} (h : m.natAbs ≤ 3) : volumeStage vol m = 0 := by
  have hsilent := attOf_eq_ceiling_iff.mpr h
  exact volumeStage_eq_zero (by omega)

/-- R239 (c): what is not silenced keeps its sign. -/
theorem volumeStage_pos_iff {vol : BitVec 12} {m : Int} (h : volumeStage vol m ≠ 0) :
    0 < volumeStage vol m ↔ 0 < m := by
  have haudible : ¬ m.natAbs ≤ 3 := fun hle => h (volumeStage_of_natAbs_le_three vol hle)
  rw [volumeStage_eq] at h ⊢
  by_cases hneg : m < 0
  · rw [if_pos hneg] at h ⊢
    omega
  · rw [if_neg hneg] at h ⊢
    omega

/-! ## Volume 0 -/

theorem natAbs_volumeStage_zero (m : Int) : (volumeStage 0 m).natAbs = linMag (attOf m.natAbs) :=
  natAbs_volumeStage 0 m

/-- R239 (a): the greatest magnitude of the table that does not exceed the input. -/
theorem linMag_le_volumeStage_zero {a : Nat} {m : Int} (h : linMag a ≤ m.natAbs) :
    linMag a ≤ (volumeStage 0 m).natAbs := by
  rw [natAbs_volumeStage_zero]
  exact linMag_antitone (attOf_le_iff.mpr h)

/-- R239 (e): a magnitude of the table is found again. -/
theorem volumeStage_zero_idem (m : Int) : volumeStage 0 (volumeStage 0 m) = volumeStage 0 m := by
  have hmag : (volumeStage 0 (volumeStage 0 m)).natAbs = (volumeStage 0 m).natAbs := by
    rw [natAbs_volumeStage_zero, natAbs_volumeStage_zero, linMag_attOf_linMag]
  by_cases hzero : volumeStage 0 m = 0
  · rw [hzero]
    exact volumeStage_of_natAbs_le_three 0 (by decide)
  · have hsign := volumeStage_pos_iff (vol := 0) (m := volumeStage 0 m) (by omega)
    omega

/-! ## How close the magnitudes lie -/

/-- The entry after `EXPTAB[i]`; after the last one the next octave begins at half the first (R100). -/
def expTabNext (i : Fin 256) : Nat := if i = 255 then expTab 0 / 2 else expTab (i + 1)

/-- One attenuation step further, before the octave's shift. -/
theorem linMag_succ {a : Nat} (h : a < 4095) :
    linMag (a + 1) = expTabNext (Fin.ofNat 256 a) / 2 ^ (a / 256) := by
  rw [linMag_of_le_ceiling h, expTabNext]
  split
  next hlast =>
    have hmod : a % 256 = 255 := congrArg Fin.val hlast
    have hfirst : Fin.ofNat 256 (a + 1) = 0 := Fin.ext (by rw [Fin.val_ofNat]; omega)
    rw [hfirst, show (a + 1) / 256 = a / 256 + 1 by omega, pow_succ', ← Nat.div_div_eq_div_mul]
  next hinner =>
    have hmod : a % 256 ≠ 255 := fun hlast => hinner (Fin.ext hlast)
    have hnext : Fin.ofNat 256 (a + 1) = Fin.ofNat 256 a + 1 := Fin.ext (by simp [Fin.val_add])
    rw [hnext, show (a + 1) / 256 = a / 256 by omega]

/-- A step of `2^(1/256)` is less than 0.28 %, along the printed table and on to the next octave. -/
theorem expTabRows_isChain :
    (expTabRows.flatten ++ [expTab 0 / 2]).IsChain fun x y => (x - y) * 10000 < 28 * y := by
  decide +kernel

theorem length_expTabRows : expTabRows.flatten.length = 256 := by rw [List.length_flatten]; rfl

theorem expTabNext_getElem? (i : Fin 256) :
    (expTabRows.flatten ++ [expTab 0 / 2])[i.val + 1]? = some (expTabNext i) := by
  have hlen := length_expTabRows
  unfold expTabNext
  split
  next hlast =>
    rw [hlast, List.getElem?_append_right (by rw [hlen]; decide), hlen]
    rfl
  next hinner =>
    have hnot : i.val ≠ 255 := fun hval => hinner (Fin.ext hval)
    have hnext : (i + 1).val = i.val + 1 := by rw [Fin.val_add]; omega
    rw [List.getElem?_append_left (by omega), ← hnext, expTab_getElem?]

/-- Neighbours of the table lie within 0.28 %. -/
theorem expTab_sub_next_lt (i : Fin 256) : (expTab i - expTabNext i) * 10000 < 28 * expTabNext i := by
  have hlen := length_expTabRows
  have hfirst : (expTabRows.flatten ++ [expTab 0 / 2])[i.val]? = some (expTab i) := by
    rw [List.getElem?_append_left (by omega), expTab_getElem?]
  obtain ⟨_, hi⟩ := List.getElem?_eq_some_iff.mp hfirst
  obtain ⟨hbound, hnext⟩ := List.getElem?_eq_some_iff.mp (expTabNext_getElem? i)
  have hstep := List.isChain_iff_getElem.mp expTabRows_isChain i.val hbound
  rwa [hi, hnext] at hstep

/-- What the shift of an octave rounds away on both sides does not add to the distance. -/
theorem sub_div_mul_le {x y m d : Nat} (hd : 0 < d) (hlow : y / d < m) (hhigh : m < x / d) :
    y < m * d ∧ (m - y / d) * d ≤ x - y := by
  have hy : y / d * d + y % d = y := Nat.div_add_mod' y d
  have hrest : y % d < d := Nat.mod_lt y hd
  have hbelow : (y / d + 1) * d ≤ m * d := Nat.mul_le_mul_right d hlow
  have habove : (m + 1) * d ≤ x := (Nat.le_div_iff_mul_le hd).mp hhigh
  rw [Nat.add_mul, Nat.one_mul] at hbelow habove
  rw [Nat.sub_mul]
  omega

/-- R239 (a): the magnitude found is within 0.28 % of the input, from the table's least magnitude up to below its
greatest. -/
theorem linMag_attOf_close {m : Nat} (hlow : 4 ≤ m) (hhigh : m < 262144) :
    (m - linMag (attOf m)) * 10000 < 28 * m := by
  have hle : linMag (attOf m) ≤ m := linMag_attOf_le m
  have hpos : attOf m ≠ 0 := fun h => absurd (attOf_eq_zero_iff.mp h) (by omega)
  have hceiling : attOf m ≠ 4096 := fun h => absurd (attOf_eq_ceiling_iff.mp h) (by omega)
  have hbound := attOf_le_ceiling m
  obtain ⟨a, ha⟩ : ∃ a, attOf m = a + 1 := ⟨attOf m - 1, by omega⟩
  have hbefore : m < linMag a := lt_linMag_of_lt_attOf (by omega)
  rw [ha, linMag_succ (by omega)] at hle ⊢
  rw [linMag_of_le_ceiling (by omega)] at hbefore
  obtain hexact | hbetween := hle.eq_or_lt
  · omega
  · have hd : 0 < 2 ^ (a / 256) := by positivity
    obtain ⟨hscaled, hgap⟩ := sub_div_mul_le hd hbetween hbefore
    have hstep := expTab_sub_next_lt (Fin.ofNat 256 a)
    refine Nat.lt_of_mul_lt_mul_right (a := 2 ^ (a / 256)) ?_
    calc (m - expTabNext (Fin.ofNat 256 a) / 2 ^ (a / 256)) * 10000 * 2 ^ (a / 256)
        = (m - expTabNext (Fin.ofNat 256 a) / 2 ^ (a / 256)) * 2 ^ (a / 256) * 10000 := Nat.mul_right_comm _ _ _
      _ ≤ (expTab (Fin.ofNat 256 a) - expTabNext (Fin.ofNat 256 a)) * 10000 := Nat.mul_le_mul_right _ hgap
      _ < 28 * expTabNext (Fin.ofNat 256 a) := hstep
      _ ≤ 28 * (m * 2 ^ (a / 256)) := Nat.mul_le_mul_left _ hscaled.le
      _ = 28 * m * 2 ^ (a / 256) := (Nat.mul_assoc _ _ _).symm

/-- Settles O52: (b) to (d) by attenuation and sign, (a) and (e) by the search and the table's spacing. -/
theorem volumeStageConsequences : Obligations.VolumeStageConsequences := by
  refine ⟨fun vol m => ⟨rfl, ⟨_, natAbs_volumeStage vol m⟩, volumeStage_of_natAbs_le_three vol,
    volumeStage_pos_iff, fun h => ?_⟩, fun m hm => ⟨natAbs_volumeStage_le 0 m, fun _ => linMag_le_volumeStage_zero, fun h => ?_,
      volumeStage_zero_idem m⟩⟩
  · rw [linearToLog_div_two] at h
    exact volumeStage_eq_zero h
  · have hmax := within_iff_natAbs (b := 131072).mp hm
    rw [natAbs_volumeStage_zero]
    exact linMag_attOf_close (by omega) (by omega)

/-! ## SETVOLUME -/

/-- R240, R239: at level 4095 everything below full scale is silent. -/
theorem volumeStage_max {m : Int} (h : m.natAbs < 262144) : volumeStage 4095 m = 0 := by
  have hloud : attOf m.natAbs ≠ 0 := fun hzero => absurd (attOf_eq_zero_iff.mp hzero) (by omega)
  have hvol : (4095 : BitVec 12).toNat = 4095 := rfl
  exact volumeStage_eq_zero (by omega)

/-- Settles O31: the two sides of the level check, and level 4095 by the attenuation it adds. -/
theorem setVolumeWritesTheOffset : Obligations.SetVolumeWritesTheOffset := by
  refine ⟨fun s l ready fits => (execSetVolume_of_ready l ready).trans (if_pos fits),
    fun s l ready above => (execSetVolume_of_ready l ready).trans (if_neg (by omega)), fun m hm => ?_⟩
  have hmax := within_iff_natAbs (b := 131072).mp hm
  exact volumeStage_max (by omega)

end Sys2Proof.Machine
end

section
/-!
SUPPORT. Channels do not interact (R236): two states that agree on one channel stay in agreement on it, command by
command and SAMPLETICK by SAMPLETICK.
-/

/- Checked one after another, as the tables are: more threads take more memory than the sandbox allows. -/
set_option Elab.async false

namespace Sys2Proof.Machine

/-- Agreement from its one condition: the states differ in the channel records and the outputs alone. -/
theorem AgreeOnChannel.of_chan? {c : Nat} {s : State} {chs : List Channel} (l r : BitVec 32)
    (h : s.chan? c = chs[c]?) : AgreeOnChannel c s { s with ch := chs, outL := l, outR := r } := ⟨rfl, h⟩

theorem AgreeOnChannel.exists_eq {c : Nat} {s s' : State} (h : AgreeOnChannel c s s') :
    ∃ (chs : List Channel) (l r : BitVec 32),
      s' = { s with ch := chs, outL := l, outR := r } ∧ s.chan? c = chs[c]? :=
  ⟨s'.ch, s'.outL, s'.outR, h⟩

section
variable {c : Nat} {s s' : State}

/-- An update of one channel depends on that channel alone. -/
theorem chan?_updChan_congr (hcfg : s'.cfg = s.cfg) (h : s.chan? c = s'.chan? c) (x : Nat)
    (f : Channel → Channel) : (s.updChan x f).setBusyWrite.chan? c = (s'.updChan x f).setBusyWrite.chan? c := by
  have same : (s.updChan x f).chan? c = (s'.updChan x f).chan? c := by
    rw [State.chan?_updChan, State.chan?_updChan, hcfg]
    by_cases hx : c = x
    · rw [← hx, h]
    · rw [if_neg (by tauto), if_neg (by tauto), h]
  exact same

/-- So does a queue command: the rest of what it reads is the parameters and `CPS`. -/
theorem chan?_applyCommand_congr (i : Instr) {chs : List Channel} (l r : BitVec 32) (h : s.chan? c = chs[c]?) :
    (applyCommand i s).chan? c = (applyCommand i { s with ch := chs, outL := l, outR := r }).chan? c := by
  have edit := chan?_updChan_congr (s := s) (s' := { s with ch := chs, outL := l, outR := r }) rfl h
  cases i
  case key | freqLo | freqHi | algFb | panLfo | mulDt | tl | ar | dr | sr | rr | slKs | egtSsg =>
    exact edit _ _
  all_goals exact h

end

/-- Agreement on a channel lasts through chip clocks and SAMPLETICKs: neither reads the other channels or the
outputs. -/
theorem sampledAlike_agreeOnChannel (c : Nat) : SampledAlike (AgreeOnChannel c) where
  scheduler h := by obtain ⟨chs, l, r, rfl, -⟩ := h.exists_eq; exact ⟨rfl, rfl, rfl⟩
  command i s s' h := by
    obtain ⟨chs, l, r, rfl, hc⟩ := h.exists_eq
    exact ⟨by cases i <;> rfl, chan?_applyCommand_congr i l r hc⟩
  bookkeeping q b s s' h := by obtain ⟨chs, l, r, rfl, hc⟩ := h.exists_eq; exact .of_chan? l r hc
  clocks h := by obtain ⟨chs, l, r, rfl, -⟩ := h.exists_eq; exact ⟨rfl, rfl, rfl⟩
  divider acc s s' h := by obtain ⟨chs, l, r, rfl, hc⟩ := h.exists_eq; exact .of_chan? l r hc
  sample {s s'} h := by
    obtain ⟨chs, l, r, rfl, hc⟩ := h.exists_eq
    refine ⟨rfl, ?_⟩
    rw [chan?_sampleTick, chan?_sampleTick, hc]
    rfl

/-- Settles O60: the agreement after the samples is on the channel and on everything but the other channels and the
outputs. -/
theorem channelsDoNotInteract : Obligations.ChannelsDoNotInteract := by
  intro s s' c n h ready
  obtain ⟨chs, l, r, hs', hc⟩ := ((sampledAlike_agreeOnChannel c).generateSamples n h).exists_eq
  have ready' : s'.ready = true := by obtain ⟨_, _, _, rfl, -⟩ := h.exists_eq; exact ready
  refine ⟨_, _, exec_generate_of_ready n ready, exec_generate_of_ready n ready', ?_⟩
  rw [hs']
  exact ⟨hc, rfl, rfl, rfl, rfl⟩

end Sys2Proof.Machine
end

section
/-!
SUPPORT. READY and `reset` (R284, R301 to R303): the refusals that a ready block still gives, what `reset` does with its
arguments, and that nothing else decides the state after it.
-/

/- Checked one after another, as the tables are: more threads take more memory than the sandbox allows. -/
set_option Elab.async false

namespace Sys2Proof.Machine

/-! ## READY -/

/-- Before the first `reset` the check refuses, whatever the operation would do (R284). -/
theorem whenReady_of_not_ready {s : State} {k : State → Host.Outcome State Fault Refusal}
    (h : s.ready = false) : whenReady s k = .refused .notReady := by
  rw [whenReady, h]
  exact if_neg Bool.false_ne_true

/-- So every host operation but `reset` is refused (R284). -/
theorem exec_of_not_ready {i : Instr} {s : State} (unready : s.ready = false) (host : i.isQueueCommand = false)
    (notReset : ∀ clk rate, i ≠ .reset clk rate) : exec i s = .refused .notReady := by
  cases i
  case reset clk rate => exact absurd rfl (notReset clk rate)
  case write a v => exact show execWrite a v s = _ from whenReady_of_not_ready unready
  case read a => exact show execRead a s = _ from whenReady_of_not_ready unready
  case generate n => exact show execGenerate n s = _ from whenReady_of_not_ready unready
  case setVolume l => exact show execSetVolume l s = _ from whenReady_of_not_ready unready
  case tick => exact show execTick s = _ from whenReady_of_not_ready unready
  all_goals cases host

/-- Only `reset` writes READY, and it sets it (R25). -/
theorem ready_invariant : Invariant fun s => s.ready = true where
  reset _ _ _ _ _ := rfl
  command i s h := (applyCommand_ready i s).trans h
  divider _ h := h
  sample _ h := h
  bookkeeping _ _ _ _ _ _ h := h

/-- A ready block refuses arguments out of range, and nothing else (R240, R283, R302). -/
theorem exec_refused_of_ready {i : Instr} {s : State} {r : Refusal} (ready : s.ready = true)
    (h : exec i s = .refused r) :
    (∃ clk rate, i = .reset clk rate ∧ ¬ resetLegal clk rate ∧ r = .resetArguments) ∨
      ∃ l, i = .setVolume l ∧ 4095 < l ∧ r = .volumeLevel := by
  have completes {t : State} (runs : Runs i s t) : False := by
    rw [exec_eq_next_iff.mpr runs] at h
    cases h
  cases hi : i.isQueueCommand with
  | true => exact (completes (.command hi)).elim
  | false =>
    cases i
    case reset clk rate =>
      by_cases legal : resetLegal clk rate
      · exact (completes (.reset legal)).elim
      · have refused : exec (.reset clk rate) s = .refused .resetArguments := if_neg legal
        rw [refused] at h
        cases h
        exact .inl ⟨clk, rate, rfl, legal, rfl⟩
    case setVolume l =>
      by_cases fits : l ≤ 4095
      · exact (completes (.setVolume ready fits)).elim
      · have refused : exec (.setVolume l) s = .refused .volumeLevel :=
          (execSetVolume_of_ready l ready).trans (if_neg fits)
        rw [refused] at h
        cases h
        exact .inr ⟨l, rfl, Nat.lt_of_not_le fits, rfl⟩
    case write => exact (completes (.write ready)).elim
    case read => exact (completes (.read ready)).elim
    case generate => exact (completes (.generate ready)).elim
    case tick => exact (completes (.tick ready)).elim
    all_goals cases hi

/-- Settles O27: the check on either value of READY, and READY as an invariant of every instruction. -/
theorem readyIsRequiredAndPermanent : Obligations.ReadyIsRequiredAndPermanent := by
  refine ⟨fun s unready => ?_, fun s t clk rate h => ?_, fun i s t h ready => ready_invariant.exec ready h,
    fun i s ready h => ?_⟩
  · have refused {i : Instr} := exec_of_not_ready (i := i) unready
    exact ⟨fun _ _ => refused rfl nofun, fun _ => refused rfl nofun, fun _ => refused rfl nofun,
      refused rfl nofun, fun _ => refused rfl nofun⟩
  · cases exec_eq_next_iff.mp h with
    | command queued => cases queued
    | reset legal => rfl
  · rcases exec_refused_of_ready ready h with ⟨_, _, -, -, hr⟩ | ⟨_, -, -, hr⟩ <;> cases hr

/-! ## RESET -/

theorem exec_reset_of_legal (s : State) {clk rate : Nat} (legal : resetLegal clk rate) :
    exec (.reset clk rate) s = .next (State.afterReset s.cfg s.script clk rate) := if_pos legal

theorem exec_reset_refused_iff (s : State) (clk rate : Nat) :
    exec (.reset clk rate) s = .refused .resetArguments ↔ ¬ resetLegal clk rate := by
  constructor
  · intro h legal
    rw [exec_reset_of_legal s legal] at h
    cases h
  · exact fun illegal => if_neg illegal

/-- A `reset` that gives a next state had legal arguments, and they alone made it. -/
theorem exec_reset_eq_next {s t : State} {clk rate : Nat} (h : exec (.reset clk rate) s = .next t) :
    resetLegal clk rate ∧ t = State.afterReset s.cfg s.script clk rate := by
  cases exec_eq_next_iff.mp h with
  | command queued => cases queued
  | reset legal => exact ⟨legal, rfl⟩

/-- Settles O26: `State.afterReset` reads the parameters and the script alone, and keeps both. -/
theorem resetForgetsThePast : Obligations.ResetForgetsThePast := by
  constructor
  · intro s s' clk rate hcfg hscript legal
    refine ⟨State.afterReset s'.cfg s'.script clk rate, ?_, exec_reset_of_legal s' legal, fun _ => rfl⟩
    rw [exec_reset_of_legal s legal, hcfg, hscript]
  · intro s t clk rate h
    obtain ⟨legal, rfl⟩ := exec_reset_eq_next h
    exact exec_reset_of_legal _ legal

end Sys2Proof.Machine
end

section
/-!
SUPPORT. A block at rest (R196, R231, R304): nothing sounds, nothing moves and no chip clock accepts an entry, so that a
sample changes `CLKACC` alone. The state right after `reset` is at rest, and with clock 0 it is so whatever is queued
(R302).
-/

/- Checked one after another, as the tables are: more threads take more memory than the sandbox allows. -/
set_option Elab.async false

namespace Sys2Proof.Machine

/-! ## Channels at rest -/

/-- Every operator is Off, disabled and tuned to nothing, and the channel's sample and history are 0. -/
structure Channel.AtRest (ch : Channel) : Prop where
  operators : ∀ o ∈ ch.ops, o.egMode = .off ∧ o.enable = false ∧ o.inc = 0
  chout : ch.chout = 0
  fbh1 : ch.fbh1 = 0
  fbh2 : ch.fbh2 = 0

theorem Channel.AtRest.initial (ops : Config.OperatorCount) : (Channel.initial ops).AtRest where
  operators o ho := by
    obtain rfl := List.eq_of_mem_replicate ho
    exact ⟨rfl, rfl, rfl⟩
  chout := rfl
  fbh1 := rfl
  fbh2 := rfl

/-- An evaluation puts out the silence the channel already holds (R196). -/
theorem Channel.AtRest.eval {ch : Channel} (h : ch.AtRest) (ops : Config.OperatorCount) (am : Nat) :
    ch.eval ops am = ch := by
  obtain ⟨hchout, hfbh1⟩ := Channel.eval_of_disabled (fun o ho => (h.operators o ho).2.1) ops am
  have hshift : ch.fbh1 = ch.fbh2 := h.fbh1.trans h.fbh2.symm
  calc ch.eval ops am
      = { ch with
          chout := (ch.eval ops am).chout, fbh2 := ch.fbh1, fbh1 := (ch.eval ops am).fbh1 } := rfl
    _ = ch := by rw [hshift, hchout.trans h.chout.symm, hfbh1.trans h.fbh1.symm]

/-- A SAMPLETICK leaves a channel at rest as it is: an increment of 0 moves no phase, and Off no envelope. -/
theorem Channel.AtRest.sampleTick {ch : Channel} (h : ch.AtRest) (ops : Config.OperatorCount) (am : Nat)
    (pm : Int) : ch.sampleTick ops am pm = ch := by
  have hops : ch.ops.map (fun o => (o.phaseStep (pmDelta o.inc pm ch.pms)).egStep ch.kcode) = ch.ops := by
    refine (List.map_congr_left fun o ho => ?_).trans (List.map_id _)
    obtain ⟨hoff, -, hinc⟩ := h.operators o ho
    rw [Operator.phaseStep_of_inc_zero hinc, Operator.egStep_of_off _ hoff, id_eq]
  rw [Channel.sampleTick, h.eval, hops]

theorem mixOf_of_atRest (side : Nat) {chs : List Channel} (h : ∀ ch ∈ chs, ch.AtRest) : mixOf side chs = 0 := by
  refine List.sum_eq_zero (List.forall_mem_map.mpr fun ch hch => ?_)
  rw [(h ch hch).chout]
  exact ite_self _

/-! ## The block at rest -/

/-- The channels are at rest, the LFOs stand still, the outputs are 0, and the scheduler accepts nothing: no entry
waits, or no chip clock comes. -/
structure State.AtRest (s : State) : Prop where
  channels : ∀ ch ∈ s.ch, ch.AtRest
  lfoAmFreq : s.lfoAmFreq = 0
  lfoPmFreq : s.lfoPmFreq = 0
  outL : s.outL = 0
  outR : s.outR = 0
  busyCnt : s.busyCnt = 0
  remainder : s.clkAcc.toNat < s.clkDen.toNat
  scheduler : s.queue = [] ∨ s.clkNum = 0

/-- A counter with frequency 0 stands still (R173). -/
theorem lfoAdvance_zero (cnt : BitVec 22) : lfoAdvance cnt 0 = cnt := by
  apply BitVec.eq_of_toNat_eq
  rw [lfoAdvance_toNat, show (0 : BitVec 8).toNat = 0 from rfl, Nat.mul_zero, Nat.add_zero]
  exact Nat.mod_eq_of_lt cnt.isLt

theorem State.AtRest.output (side : Nat) {s : State} (h : s.AtRest) :
    BitVec.ofInt 32 (volumeStage s.vol (mixOf side s.ch)) = 0 := by
  rw [mixOf_of_atRest side h.channels, volumeStage_of_natAbs_le_three s.vol (by decide)]
  rfl

theorem State.AtRest.sampleTick {s : State} (h : s.AtRest) : sampleTick s = s := by
  have hch : s.ch.map (Channel.sampleTick s.cfg.ops s.amOut s.pmOut) = s.ch :=
    (List.map_congr_left fun ch hch => (h.channels ch hch).sampleTick _ _ _).trans (List.map_id _)
  have hleft := (h.output 1).trans h.outL.symm
  have hright := (h.output 0).trans h.outR.symm
  have ham : lfoAdvance s.lfoAmCnt s.lfoAmFreq = s.lfoAmCnt := by rw [h.lfoAmFreq, lfoAdvance_zero]
  have hpm : lfoAdvance s.lfoPmCnt s.lfoPmFreq = s.lfoPmCnt := by rw [h.lfoPmFreq, lfoAdvance_zero]
  rw [Machine.sampleTick, hch, hleft, hright, ham, hpm]

/-- With the clock at 0 a sample has no chip clock (R302). -/
theorem State.subtickCount_of_clkNum_zero {s : State} (remainder : s.clkAcc.toNat < s.clkDen.toNat)
    (h : s.clkNum = 0) : s.subtickCount = 0 := by
  rw [State.subtickCount, h]
  exact Nat.div_eq_of_lt remainder

/-- The chip clocks of a sample have nothing to count down and nothing to accept (R217, R231). -/
theorem State.AtRest.clockDivider {s : State} (h : s.AtRest) :
    clockDivider s = s.withClkAcc s.dividerRest := by
  have idle : s.queue = [] ∨ s.subtickCount < max s.busyCnt.toNat 1 := h.scheduler.imp_right fun hclk => by
    rw [State.subtickCount_of_clkNum_zero h.remainder hclk]
    omega
  have still : BitVec.ofNat 24 (s.busyCnt.toNat - s.subtickCount) = s.busyCnt := by
    rw [h.busyCnt]
    exact congrArg _ (Nat.zero_sub _)
  calc Machine.clockDivider s
      = (s.withClkAcc s.dividerRest).countedDown s.subtickCount := subticks_of_idle _ idle
    _ = { s.withClkAcc s.dividerRest with busyCnt := s.busyCnt } := by
      rw [← still]
      rfl
    _ = s.withClkAcc s.dividerRest := rfl

theorem State.AtRest.withDividerRest {s : State} (h : s.AtRest) : (s.withClkAcc s.dividerRest).AtRest where
  channels := h.channels
  lfoAmFreq := h.lfoAmFreq
  lfoPmFreq := h.lfoPmFreq
  outL := h.outL
  outR := h.outR
  busyCnt := h.busyCnt
  remainder := by
    have positive : 0 < s.clkDen.toNat := Nat.zero_lt_of_lt h.remainder
    have hrest : s.dividerRest.toNat = _ := s.dividerRest_toNat positive.ne'
    exact hrest.trans_lt (Nat.mod_lt _ positive)
  scheduler := h.scheduler

theorem State.AtRest.oneSample {s : State} (h : s.AtRest) : oneSample s = s.withClkAcc s.dividerRest := by
  rw [Machine.oneSample, h.clockDivider, h.withDividerRest.sampleTick]

/-- Samples of a block at rest are silent and write `CLKACC` alone. -/
theorem State.AtRest.generateSamples (n : Nat) {s : State} (h : s.AtRest) :
    (generateSamples n s).1 = s.withClkAcc (generateSamples n s).1.clkAcc ∧
      (generateSamples n s).2 = List.replicate n (0, 0) := by
  induction n generalizing s with
  | zero => exact ⟨rfl, rfl⟩
  | succ n ih =>
    obtain ⟨hstate, hsamples⟩ := ih h.withDividerRest
    have hleft : (s.withClkAcc s.dividerRest).outL = 0 := h.outL
    have hright : (s.withClkAcc s.dividerRest).outR = 0 := h.outR
    rw [generateSamples_succ, h.oneSample, hleft, hright]
    exact ⟨hstate, congrArg ((0, 0) :: ·) hsamples⟩

/-- R231: and what they leave there is the remainder of all their clock periods together. -/
theorem State.AtRest.generateSamples_clkAcc (n : Nat) {s : State} (h : s.AtRest) :
    (Machine.generateSamples n s).1.clkAcc =
      BitVec.ofNat 32 ((s.clkAcc.toNat + n * s.clkNum.toNat) % s.clkDen.toNat) := by
  rw [← Machine.generateSamples_clkAcc n h.remainder, BitVec.ofNat_toNat, BitVec.setWidth_eq]

/-- GENERATE on a block at rest. -/
theorem State.AtRest.exec_generate (n : Nat) {s : State} (h : s.AtRest) (ready : s.ready = true) :
    exec (.generate n) s =
      .next { s with
        clkAcc := BitVec.ofNat 32 ((s.clkAcc.toNat + n * s.clkNum.toNat) % s.clkDen.toNat)
        reply := .samples (List.replicate n (0, 0)) } := by
  obtain ⟨hstate, hsamples⟩ := h.generateSamples n
  rw [exec_generate_of_ready n ready, hsamples, hstate, h.generateSamples_clkAcc]
  rfl

/-- With the clock at 0 not even `CLKACC` changes (R302). -/
theorem State.AtRest.exec_generate_of_clkNum_zero (n : Nat) {s : State} (h : s.AtRest)
    (ready : s.ready = true) (stopped : s.clkNum = 0) :
    exec (.generate n) s = .next { s with reply := .samples (List.replicate n (0, 0)) } := by
  have hsum : s.clkAcc.toNat + n * s.clkNum.toNat = s.clkAcc.toNat := by
    rw [stopped]
    rfl
  rw [h.exec_generate n ready, hsum, Nat.mod_eq_of_lt h.remainder, BitVec.ofNat_toNat, BitVec.setWidth_eq]

/-! ## After reset -/

/-- Right after a legal `reset` the block is at rest, with whatever queue where no chip clock comes, and at any
volume. -/
theorem State.afterReset_atRest (cfg : Config.Params) (script : List HostCall) {clk rate : Nat}
    (legal : resetLegal clk rate) {q : List Entry} (vol : BitVec 12) (scheduler : q = [] ∨ clk = 0) :
    State.AtRest { State.afterReset cfg script clk rate with queue := q, vol := vol } where
  channels ch hch := by
    obtain rfl := List.eq_of_mem_replicate hch
    exact .initial cfg.ops
  lfoAmFreq := rfl
  lfoPmFreq := rfl
  outL := rfl
  outR := rfl
  busyCnt := rfl
  remainder := by
    obtain ⟨-, hden, -⟩ := State.afterReset_clocks cfg script legal
    exact legal.1.trans_eq hden.symm
  scheduler := scheduler.imp_right fun hclk => congrArg (BitVec.ofNat 32) hclk

/-- Settles O34: the reset state is at rest, and its clocks are the arguments. -/
theorem generateAfterResetIsSilent : Obligations.GenerateAfterResetIsSilent := by
  intro cfg script clk rate n legal
  obtain ⟨hnum, hden, -⟩ := State.afterReset_clocks cfg script legal
  have hacc : (State.afterReset cfg script clk rate).clkAcc.toNat = 0 := rfl
  have atRest : (State.afterReset cfg script clk rate).AtRest :=
    State.afterReset_atRest cfg script legal 0 (.inl rfl)
  have silent := atRest.exec_generate n rfl
  rwa [hnum, hden, hacc, Nat.zero_add] at silent

/-- Settles O25: the test of `reset` is R302's, and with clock 0 the block is at rest whatever is queued. -/
theorem resetArgumentsAreChecked : Obligations.ResetArgumentsAreChecked := by
  refine ⟨exec_reset_refused_iff, fun s clk rate hrate hrate' hclk hcps => ?_,
    fun cfg script rate n q vol hrate hrate' => ?_⟩
  · exact ⟨_, exec_reset_of_legal s ⟨hrate, hrate', hclk, hcps⟩⟩
  · have legal : resetLegal 0 rate := ⟨hrate, hrate', by decide, by rw [Nat.zero_mul, Nat.zero_div]; decide⟩
    exact (State.afterReset_atRest cfg script legal vol (.inr rfl)).exec_generate_of_clkNum_zero n rfl rfl

end Sys2Proof.Machine
end

section
/-!
SUPPORT. The effects of the register-write commands but KEY and the frequency bytes (R250 to R253, R257 to R268). A
command for one operator is an update of the channel that has it, which leaves the channel's own fields. What such an
update does is settled once, and each command is read as one.
-/

/- Checked one after another, as the sections before: more threads take more memory than the sandbox allows. -/
set_option Elab.async false

namespace Sys2Proof.Machine

/-! ## The global commands -/

/-- Settles O14: the commands without a channel, by the state function the scheduler applies. -/
theorem globalCommandsTakeEffect : Obligations.GlobalCommandsTakeEffect := fun s =>
  ⟨exec_queueCommand (i := .statusW) rfl s, fun f => exec_queueCommand (i := .lfoAmFreq f) rfl s,
    fun f => exec_queueCommand (i := .lfoPmFreq f) rfl s,
    fun am pm => exec_queueCommand (i := .lfoWave am pm) rfl s,
    fun n => exec_queueCommand (i := .wait n) rfl s, exec_queueCommand (i := .unmapped) rfl s⟩

/-! ## Routing and pan -/

/-- R257 on numbers: a two-operator channel stores the selector's low bit. -/
theorem storedAlg_eq (ops : Config.OperatorCount) (alg : BitVec 3) :
    storedAlg ops alg = if ops = .four then alg else BitVec.ofNat 3 (alg.toNat % 2) := by
  cases ops with
  | two => revert alg; decide
  | four => rfl

/-- Settles O18: each command is an update of its one channel. -/
theorem routingAndPanCommands : Obligations.RoutingAndPanCommands := by
  refine ⟨fun s c alg fb => ⟨cmdAlgFb c alg fb s, rfl, rfl, ?_⟩,
    fun s c pan ams pms => ⟨cmdPanLfo c pan ams pms s, rfl, rfl, onlyChannel_updChan s c.toNat _⟩⟩
  simp only [← storedAlg_eq]
  exact onlyChannel_updChan s c.toNat _

/-! ## Updates of one operator -/

/-- An update that leaves a channel's own fields leaves those of every channel. -/
theorem State.core_updChan (s : State) (c c' : Nat) {f : Channel → Channel}
    (keeps : ∀ ch, (f ch).core = ch.core) :
    ((s.updChan c f).chan? c').map Channel.core = (s.chan? c').map Channel.core := by
  rw [State.chan?_updChan]
  split
  next hc =>
    rw [hc.1, Option.map_map]
    exact Option.map_congr fun ch _ => keeps ch
  next => rfl

/-- The form of every operator command leaves the channel's own fields (R259 to R266). -/
theorem Channel.core_updOper_if_lt (ch : Channel) (n k : Nat) (f : Operator → Operator) :
    (if k < n then ch.updOper k f else ch).core = ch.core := by
  split <;> rfl

/-- Reading an operator of an updated channel. -/
theorem Channel.getElem?_ops_updOper (ch : Channel) (k k' : Nat) (f : Operator → Operator) :
    (ch.updOper k f).ops[k']? = if k' = k then (ch.ops[k']?).map f else ch.ops[k']? := by
  rw [Channel.updOper_ops, List.getElem?_modify]
  by_cases hk : k' = k
  · subst hk; simp
  · simp [hk, Ne.symm hk]

/-- Reading an operator after an operator command whose update also reads the operator's channel, as MUL_DT's does
(R259). -/
theorem State.oper?_updChan_updOper (s : State) (c : BitVec 3) (k : BitVec 2) (c' k' : Nat)
    (f : Channel → Operator → Operator) :
    (s.updChan c.toNat fun ch =>
        if k.toNat < s.cfg.ops.count then ch.updOper k.toNat (f ch) else ch).oper? c' k' =
      if c' = c.toNat ∧ k' = k.toNat ∧ hasOperator s.cfg c k = true then
        (s.chan? c').bind fun ch => (ch.ops[k']?).map (f ch)
      else s.oper? c' k' := by
  cases hop : hasOperator s.cfg c k with
  | false =>
    rw [State.updChan_of_absent_operator hop]
    simp
  | true =>
    obtain ⟨hc, hk⟩ := hasOperator_iff.mp hop
    rw [State.oper?_eq_bind, State.chan?_updChan]
    by_cases hc' : c' = c.toNat
    · subst hc'
      simp only [hc, hk, and_true, true_and, if_true, Option.bind_map, Function.comp_def,
        Channel.getElem?_ops_updOper, State.oper?_eq_bind]
      split <;> rfl
    · simp [hc', State.oper?_eq_bind]

/-! ## MUL_DT -/

/-- The recomputed increment in the words of R127. -/
theorem recomputeInc_eq (cps : BitVec 24) (fnum : BitVec 11) (block : BitVec 3) (o : Operator) :
    recomputeInc cps fnum block o =
      { o with
        inc := BitVec.ofNat 20 (ruleInc cps.toNat fnum.toNat block.toNat o.mul.toNat o.dt.toNat) } := by
  rw [← incOf_toNat, ofNat_toNat_self]
  rfl

/-- Settles O19: MUL_DT updates one operator, from the active frequency of its channel. -/
theorem mulDtRecomputesTheIncrement : Obligations.MulDtRecomputesTheIncrement := by
  refine fun s c k mul dt => ⟨cmdMulDt c k mul dt s, rfl, rfl, rfl,
    fun c' => s.core_updChan c.toNat c' fun ch => ch.core_updOper_if_lt _ _ _,
    fun c' k' => (s.oper?_updChan_updOper c k c' k' _).trans ?_⟩
  simp only [recomputeInc_eq]

/-! ## The other operator commands -/

/-- An operator command touches its own operator and the busy counter (R260 to R266). -/
theorem onlyOperator_updOper (s : State) (c : BitVec 3) (k : BitVec 2) (f : Operator → Operator) :
    OnlyOperator s (s.updOper c.toNat k.toNat f).setBusyWrite c.toNat k.toNat fun o =>
      if hasOperator s.cfg c k then f o else o := by
  refine ⟨rfl, fun c' => s.core_updChan c.toNat c' fun ch => ch.core_updOper_if_lt _ _ _,
    fun c' k' => (s.oper?_updOper c.toNat k.toNat c' k' f).trans ?_⟩
  simp only [← hasOperator_iff]
  cases hop : hasOperator s.cfg c k with
  | true => simp only [and_true, if_true]
  | false => by_cases hck : c' = c.toNat ∧ k' = k.toNat <;> simp [hck]

/-- A command that is such an update on every state writes its operator. -/
theorem writesOperator_of_exec {i : Instr} {c : BitVec 3} {k : BitVec 2} {f : Operator → Operator}
    (update : ∀ s, exec i s = .next (s.updOper c.toNat k.toNat f).setBusyWrite) : WritesOperator i c k f :=
  fun s => ⟨_, update s, rfl, onlyOperator_updOper s c k f⟩

/-- Settles O20: each of the seven commands is an update of its one operator. -/
theorem operatorCommandsStoreTheirFields : Obligations.OperatorCommandsStoreTheirFields := fun _ _ =>
  ⟨fun _ => writesOperator_of_exec fun _ => rfl, fun _ => writesOperator_of_exec fun _ => rfl,
    fun _ => writesOperator_of_exec fun _ => rfl, fun _ => writesOperator_of_exec fun _ => rfl,
    fun _ => writesOperator_of_exec fun _ => rfl, fun _ _ => writesOperator_of_exec fun _ => rfl,
    fun _ _ _ => writesOperator_of_exec fun _ => rfl⟩

end Sys2Proof.Machine
end
